-- ==== Sys2Proof/Word.lean ====
section
/-! DEFINITION. The word types of the Pejmar 6620: the part's fields are counted in octets (chapter 12). -/

namespace Sys2Proof

/-- One octet of a frame, a record or a serialization. -/
abbrev Byte := BitVec 8

/-- A two-octet field: scan numbers, sequence numbers, session ids, raw samples. -/
abbrev Half := BitVec 16

/-- A four-octet field: counters, check values, accounts, stamps. -/
abbrev Word := BitVec 32

/-- A six-octet field: quantum and floor limit (R39). -/
abbrev Wide := BitVec 48

/-- A frame as it stands on the wire, octet for octet, from its kind to its frame check (12.1). -/
abbrev Frame := List Byte

end Sys2Proof
end

