-- ==== Sys2Proof/Config.lean ====
section
/-! DEFINITION. What the spec fixes for every part (capacities, durations, limits) and the three points it leaves open, as constants without a body. -/

namespace Sys2Proof.Config

/-- Frames a forward buffer holds, the one in transmission included (R11, R12). -/
@[reducible, simp] def forwardPlaces : Nat := 4

/-- Admitted SAMPLE frames the metering queue holds (R28). -/
@[reducible, simp] def meteringPlaces : Nat := 8

/-- Samples a history ring holds (R65). -/
@[reducible, simp] def ringPlaces : Nat := 32

/-- Current samples a park queue holds (R87). -/
@[reducible, simp] def parkPlaces : Nat := 8

/-- Stream entries a plan bank holds (R38). -/
@[reducible, simp] def streamPlaces : Nat := 256

/-- Records the report queue holds (R121). -/
@[reducible, simp] def reportPlaces : Nat := 16

/-- Places from the base within which a record may be sent (R141). -/
@[reducible, simp] def windowPlaces : Nat := 8

/-- Entries one record holds (R118). -/
@[reducible, simp] def recordPlaces : Nat := 24

/-- Entries the closing list holds (R132). -/
@[reducible, simp] def closingPlaces : Nat := 8

/-- Commands the command queue holds (R156). -/
@[reducible, simp] def commandPlaces : Nat := 4

/-- Responses the response queue holds (R161). -/
@[reducible, simp] def responsePlaces : Nat := 4

/-- Records the event queue holds (R174). -/
@[reducible, simp] def eventPlaces : Nat := 32

/-- Records one EVENT frame carries at most (R176). -/
@[reducible, simp] def eventFramePlaces : Nat := 8

/-- The largest frame; the next octet makes it a giant (R7). -/
@[reducible, simp] def largestFrame : Nat := 1024

/-- The smallest frame; a shorter reception is a runt (R7). -/
@[reducible, simp] def smallestFrame : Nat := 6

/-- The owed cap of a direction (R85, R98). -/
@[reducible, simp] def owedCap : Nat := 16777215

/-- The largest accumulator, saturation loss and floor-discarded total, 2^48 - 1 (R92, R112). -/
@[reducible, simp] def energyMax : Nat := 281474976710655

/-- The largest value a CIRCUIT_QUIET event carries (R112). -/
@[reducible, simp] def quietValueMax : Nat := 4294967295

/-- The largest events-lost count (R174). -/
@[reducible, simp] def lostMax : Nat := 65535

/-- The largest repeat count of an event record (R174). -/
@[reducible, simp] def repeatMax : Nat := 255

/-- The most units one UNITS entry carries (R119). -/
@[reducible, simp] def entryUnitsMax : Nat := 65535

/-- Scans beyond the predecessor past which the census counts a gap (R70). -/
@[reducible, simp] def gapScans : Nat := 64

/-- Periods that make a short sum (R72). -/
@[reducible, simp] def periodsPerShort : Nat := 16

/-- Short sums that make a long sum (R72). -/
@[reducible, simp] def shortsPerLong : Nat := 8

/-- Maximum periods without a crossing past which the census is LOST (R74). -/
@[reducible, simp] def lostPeriods : Nat := 4

/-- Consecutive idle intervals at which a heartbeat is built (R130). -/
@[reducible, simp] def heartbeatIntervals : Nat := 4

/-- Sync intervals until HOLDOVER (R22). -/
@[reducible, simp] def lockedIntervals : Nat := 3

/-- Further sync intervals until LOST (R23). -/
@[reducible, simp] def holdoverIntervals : Nat := 5

/-- The signal that qualifies a port, in milliseconds (R1). -/
@[reducible, simp] def qualifyTime : Nat := 1

/-- The break that resets the part, in milliseconds (R4). -/
@[reducible, simp] def breakTime : Nat := 40

/-- The scrubber's wait between passes, in milliseconds (R60). -/
@[reducible, simp] def scrubWait : Nat := 100

/-- The deadline of a pending reset, in milliseconds (R171). -/
@[reducible, simp] def resetDeadline : Nat := 10

/-- The BYPASS of a COMMAND reset, in milliseconds (R184). -/
@[reducible, simp] def commandBypass : Nat := 1

/-- The report interval after a full reset, in seconds (R123). -/
@[reducible, simp] def defaultInterval : Nat := 10

/-- The urgent level after a full reset (R123). -/
@[reducible, simp] def defaultUrgent : Nat := 4096

/-- The retry limit after a full reset (R137). -/
@[reducible, simp] def defaultRetry : Nat := 6

/-- The retransmit timeout after a full reset, in milliseconds (R137). -/
@[reducible, simp] def defaultTimeout : Nat := 500

/-- The broadcast address (R9, R158). -/
@[reducible, simp] def broadcastAddress : Nat := 31

/-- FREE VALUE, no body. R93 divides the quantum by the acceleration, which R39 gives as 1, 4, 8 or 16; a disturbed
active bank (R61) can hold an enabled record with acceleration 0, and the spec states no quotient there.
Assumption log 4 (safe: nothing can be proved of it). -/
opaque quotientByZero : Wide → Nat

/-- FREE VALUE, no body. After an aborted EVENT frame more than one waiting record can have one kind and subject (R177),
and R174 does not say which of them a matching posting coalesces into: this many of them, counted from the oldest and
modulo their number, stand before it. It depends on the posting's stamp, value, kind code and subject.
Assumption log 5 (safe: nothing can be proved of it). -/
opaque coalesceChoice : Word → Word → Nat → Half → Nat

/-- FREE VALUE, no body. R58 lowers a partial overflow count to the new divisor minus 1; a bank copied from a disturbed
active bank can bring a divisor of 0 through a commit, since validation (R51) does not look at divisors, and the spec
states no count there. It depends on the count before, and is at most 15, the most that R39's divisors allow.
Assumption log 4 (safe: nothing can be proved of it but its bound). -/
opaque partialAtDivisorZero : Nat → Fin 16

end Sys2Proof.Config
end

