-- ==== Sys2Proof/Machine/Names.lean ====
section
/-! DEFINITION. The manual's enumerated names and the codes that carry them (R192, R193, R194, R196, R197). -/

namespace Sys2Proof

/-- The two link ports (chapter 1). -/
inductive PortId where
  | field
  | head
  deriving DecidableEq, Repr

/-- How a port in UP loses its link (R2): its signal is lost, or a break begins. -/
inductive LinkLoss where
  | signal
  | break_
  deriving DecidableEq, Repr

/-- A frame end (R7): the port it arrives at, and the loss of that port's link that falls together with it, if one does
(R149). -/
structure FrameEnding where
  port : PortId
  together : Option LinkLoss
  deriving DecidableEq, Repr

/-- The direction of energy: positive products IMPORT, negative EXPORT (R92). -/
inductive Direction where
  | imp
  | exp
  deriving DecidableEq, Repr

/-- Part states (11.1). -/
inductive PartState where
  | bypass
  | starting
  | passive
  | defect
  | idle
  | metering
  | faulted
  deriving DecidableEq, Repr

/-- Causes of a reset (R181). -/
inductive ResetCause where
  | power
  | break_
  | command
  deriving DecidableEq, Repr

/-- Port states (1.1). -/
inductive PortState where
  | down
  | up
  | break_
  deriving DecidableEq, Repr

/-- What a receive line carries; idle and frames together are signal (chapter 1). -/
inductive Line where
  | noSignal
  | signal
  | break_
  deriving DecidableEq, Repr

/-- Sync states (2.2). -/
inductive SyncState where
  | none
  | locked
  | holdover
  | lost
  deriving DecidableEq, Repr

/-- Census states (4.2). -/
inductive CensusState where
  | idle
  | unchecked
  | qualifying
  | qualified
  | outOfBand
  | lost
  deriving DecidableEq, Repr

/-- Floor states (R108). -/
inductive FloorState where
  | active
  | quiet
  deriving DecidableEq, Repr

/-- Session states (8.1). -/
inductive SessionState where
  | closed
  | open_
  | hold
  deriving DecidableEq, Repr

/-- Why the session entered HOLD (R148). -/
inductive HoldCause where
  | none
  | noAck
  | link
  deriving DecidableEq, Repr

/-- States of a record in the report queue (R122). -/
inductive RecordState where
  | unsent
  | sent
  | resend
  deriving DecidableEq, Repr

/-- Polarity of a circuit's current (R86). -/
inductive Polarity where
  | normal
  | inverted
  deriving DecidableEq, Repr

/-- Which directions of a circuit generate units (R95). -/
inductive Select where
  | imp
  | exp
  | both
  deriving DecidableEq, Repr

/-- The contested classes of the Head transmit arbiter (R16). -/
inductive TxClass where
  | forward
  | own
  deriving DecidableEq, Repr

/-- Response statuses (9.4). -/
inductive Status where
  | ok
  | unknownCommand
  | badLength
  | badArgument
  | wrongState
  | tableFull
  | notFound
  | planInvalid
  | checkMismatch
  | circuitInFlight
  | closingBusy
  | closingFull
  deriving DecidableEq, Repr

/-- Event kinds, in the order of their codes (12.6). -/
inductive EventKind where
  | started
  | syncLocked
  | syncHoldover
  | syncLost
  | epochChanged
  | meteringOverrun
  | planCommitted
  | planFault
  | refQualified
  | refOutOfBand
  | refLost
  | circuitBlocked
  | circuitUnblocked
  | circuitQuiet
  | circuitActive
  | reportHold
  | reportResumed
  | linkDown
  | linkUp
  deriving DecidableEq, Repr

/-- The 19 commands (9.5). -/
inductive CommandCode where
  | statusRead
  | countersRead
  | planClear
  | planCopy
  | streamLoad
  | streamRemove
  | circuitLoad
  | referenceLoad
  | planRead
  | planCommit
  | sessionOpen
  | sessionClose
  | reportConfig
  | reportFlush
  | circuitRead
  | referenceRead
  | eventConfig
  | meteringClear
  | partReset
  deriving DecidableEq, Repr

/-- Why a commit's validation refused (R51). -/
inductive InvalidReason where
  | voltageShared
  | currentShared
  | noCurrentStream
  | referenceDisabled
  | noVoltageStream
  | accountZero
  deriving DecidableEq, Repr

namespace Machine

/-- A yes or no field (R197). -/
def yesNo (b : Bool) : Byte := if b then 1 else 0

/-- R197. The part writes no code in BYPASS or STARTING, where no response is formed; 0 stands there and reaches no frame. -/
def partCode : PartState → Byte
  | .bypass => 0
  | .starting => 0
  | .passive => 1
  | .defect => 2
  | .idle => 3
  | .metering => 4
  | .faulted => 5

/-- R197. -/
def causeCode : ResetCause → Byte
  | .power => 1
  | .break_ => 2
  | .command => 3

/-- R197: the self-check result, PASS 0 and FAIL 1. -/
def selfCheckCode (passed : Bool) : Byte := if passed then 0 else 1

/-- R197. -/
def portStateCode : PortState → Byte
  | .down => 0
  | .up => 1
  | .break_ => 2

/-- R197. -/
def syncCode : SyncState → Byte
  | .none => 0
  | .locked => 1
  | .holdover => 2
  | .lost => 3

/-- R197. -/
def censusCode : CensusState → Byte
  | .idle => 0
  | .unchecked => 1
  | .qualifying => 2
  | .qualified => 3
  | .outOfBand => 4
  | .lost => 5

/-- R197. -/
def floorCode : FloorState → Byte
  | .active => 0
  | .quiet => 1

/-- R197. -/
def sessionCode : SessionState → Byte
  | .closed => 0
  | .open_ => 1
  | .hold => 2

/-- R197. -/
def holdCode : HoldCause → Byte
  | .none => 0
  | .noAck => 1
  | .link => 2

/-- R197. -/
def polarityCode : Polarity → Byte
  | .normal => 0
  | .inverted => 1

/-- R197. -/
def selectCode : Select → Byte
  | .imp => 0
  | .exp => 1
  | .both => 2

/-- R178, R197: a direction as a value, IMPORT 0 and EXPORT 1. -/
def directionCode : Direction → Word
  | .imp => 0
  | .exp => 1

/-- R178, R197: a port as a subject, FIELD 0 and HEAD 1. -/
def portSubject : PortId → Half
  | .field => 0
  | .head => 1

/-- R197: the reason of PLAN_INVALID. -/
def reasonCode : InvalidReason → Byte
  | .voltageShared => 1
  | .currentShared => 2
  | .noCurrentStream => 3
  | .referenceDisabled => 4
  | .noVoltageStream => 5
  | .accountZero => 6

/-- R194. -/
def statusCode : Status → Byte
  | .ok => 0x00
  | .unknownCommand => 0x01
  | .badLength => 0x02
  | .badArgument => 0x03
  | .wrongState => 0x04
  | .tableFull => 0x05
  | .notFound => 0x06
  | .planInvalid => 0x07
  | .checkMismatch => 0x08
  | .circuitInFlight => 0x09
  | .closingBusy => 0x0A
  | .closingFull => 0x0B

/-- R196: the kind code, which is also the position in the event mask. -/
def eventCode : EventKind → Nat
  | .started => 0
  | .syncLocked => 1
  | .syncHoldover => 2
  | .syncLost => 3
  | .epochChanged => 4
  | .meteringOverrun => 5
  | .planCommitted => 6
  | .planFault => 7
  | .refQualified => 8
  | .refOutOfBand => 9
  | .refLost => 10
  | .circuitBlocked => 11
  | .circuitUnblocked => 12
  | .circuitQuiet => 13
  | .circuitActive => 14
  | .reportHold => 15
  | .reportResumed => 16
  | .linkDown => 17
  | .linkUp => 18

/-- R193: the command codes. -/
def commandOctet : CommandCode → Byte
  | .statusRead => 0x01
  | .countersRead => 0x02
  | .planClear => 0x10
  | .planCopy => 0x11
  | .streamLoad => 0x12
  | .streamRemove => 0x13
  | .circuitLoad => 0x14
  | .referenceLoad => 0x15
  | .planRead => 0x16
  | .planCommit => 0x17
  | .sessionOpen => 0x20
  | .sessionClose => 0x21
  | .reportConfig => 0x22
  | .reportFlush => 0x23
  | .circuitRead => 0x30
  | .referenceRead => 0x31
  | .eventConfig => 0x40
  | .meteringClear => 0x50
  | .partReset => 0x51

/-- The 19 command codes of R193. -/
def allCommands : List CommandCode :=
  [.statusRead, .countersRead, .planClear, .planCopy, .streamLoad, .streamRemove, .circuitLoad, .referenceLoad,
    .planRead, .planCommit, .sessionOpen, .sessionClose, .reportConfig, .reportFlush, .circuitRead, .referenceRead,
    .eventConfig, .meteringClear, .partReset]

/-- The code is one of the 19 commands (R160 check 1). -/
def knownCommand (code : Byte) : Bool := allCommands.any fun k => commandOctet k == code

/-- R192: the frame kinds the part reads or originates. -/
def kindSample : Byte := 0x10
/-- R192. -/
def kindSync : Byte := 0x20
/-- R192. -/
def kindCommand : Byte := 0x30
/-- R192. -/
def kindResponse : Byte := 0x31
/-- R192. -/
def kindAck : Byte := 0x32
/-- R192. -/
def kindTally : Byte := 0x40
/-- R192. -/
def kindEvent : Byte := 0x41

end Machine

end Sys2Proof
end

