-- ==== Sys2Proof/Machine/Plan.lean ====
section
/-! DEFINITION. The metering plan: stream entries, configuration records and banks (R37 to R41), and the cross-reference lookups over them. -/

namespace Sys2Proof

/-- The role and index of a stream entry (R38). -/
inductive Target where
  | voltage (ref : Fin 16)
  | current (circuit : Fin 96)
  | ignore
  deriving DecidableEq, Repr

/-- A stream entry (R38): its key (node, channel) and what the stream feeds. -/
structure StreamEntry where
  node : Fin 255
  channel : Fin 8
  target : Target
  deriving DecidableEq, Repr

/-- A circuit configuration record (R39). Gain and offset are two's complement. -/
structure CircuitRecord where
  enabled : Bool
  account : Word
  reference : Fin 16
  polarity : Polarity
  gain : Half
  offset : Half
  quantum : Wide
  divisor : Byte
  acceleration : Byte
  select : Select
  floorEnable : Bool
  floorStep : Half
  floorLimit : Wide
  deriving DecidableEq, Repr

/-- A reference configuration record (R40). The zero offset is two's complement. -/
structure RefRecord where
  enabled : Bool
  censusEnable : Bool
  zeroOffset : Half
  bandMin : Half
  bandMax : Half
  deriving DecidableEq, Repr

/-- The contents of a plan bank, which its check value covers (R41): the stream list in ascending key order, the 96
circuit records and the 16 reference records in index order. -/
structure PlanContents where
  streams : List StreamEntry
  circuits : List CircuitRecord
  references : List RefRecord
  deriving DecidableEq, Repr

/-- A plan bank: its contents and its header (R37). -/
structure Bank where
  contents : PlanContents
  generation : Word
  check : Word
  deriving DecidableEq, Repr

namespace Machine

/-- The cleared circuit record (R39). -/
def clearedCircuitRecord : CircuitRecord where
  enabled := false
  account := 0
  reference := 0
  polarity := .normal
  gain := 0
  offset := 0
  quantum := 0
  divisor := 0
  acceleration := 0
  select := .imp
  floorEnable := false
  floorStep := 0
  floorLimit := 0

/-- The cleared reference record (R40). -/
def clearedRefRecord : RefRecord where
  enabled := false
  censusEnable := false
  zeroOffset := 0
  bandMin := 0
  bandMax := 0

/-- The contents of the empty bank (R37). -/
def emptyContents : PlanContents where
  streams := []
  circuits := List.replicate 96 clearedCircuitRecord
  references := List.replicate 16 clearedRefRecord

/-- The check value of the empty bank (R37, R198): the CRC-32 of its 2,914 octets of 0, as
Laws/Octets.lean proves (emptyCheck_is_crc32). -/
def emptyCheck : Word := 0xC60E423F

/-- The empty bank (R37, R43). -/
def emptyBank : Bank where
  contents := emptyContents
  generation := 0
  check := emptyCheck

/-- The 96 circuits in ascending order. -/
def allCircuits : List (Fin 96) := (List.range 96).map (Fin.ofNat 96)

/-- The 16 references in ascending order. -/
def allReferences : List (Fin 16) := (List.range 16).map (Fin.ofNat 16)

/-- The place of a key in the order of R38: first by node, then by channel. -/
def streamKey (node : Fin 255) (channel : Fin 8) : Nat := node.val * 8 + channel.val

/-- The key of a stream entry (R38). -/
def entryKey (e : StreamEntry) : Nat := streamKey e.node e.channel

/-- The circuit record at an index (R39). -/
def circuitRecord (p : PlanContents) (c : Fin 96) : CircuitRecord := p.circuits.getD c.val clearedCircuitRecord

/-- The reference record at an index (R40). -/
def refRecord (p : PlanContents) (r : Fin 16) : RefRecord := p.references.getD r.val clearedRefRecord

/-- The stream entry with a key (R33, R38). -/
def lookupStream (streams : List StreamEntry) (key : Nat) : Option StreamEntry :=
  streams.find? fun e => entryKey e == key

/-- The keys of the stream entries that feed a target, in list order. -/
def keysOf (streams : List StreamEntry) (t : Target) : List Nat :=
  (streams.filter fun e => e.target == t).map entryKey

/-- The VOLTAGE stream key of a reference, or none (R57). Where a disturbed bank holds two such entries, the lowest key: the
model's choice (assumption log 23). -/
def voltageKey (p : PlanContents) (r : Fin 16) : Option Nat := (keysOf p.streams (.voltage r)).head?

/-- The CURRENT stream key of a circuit, or none (R58). Where a disturbed bank holds two such entries, the lowest key: the
model's choice (assumption log 23). -/
def currentKey (p : PlanContents) (c : Fin 96) : Option Nat := (keysOf p.streams (.current c)).head?

/-- An entry joins the list at the place its key gives it; an entry with the same key is replaced in place (R38, R45). -/
def insertStream (e : StreamEntry) : List StreamEntry → List StreamEntry
  | [] => [e]
  | x :: xs =>
    if entryKey e < entryKey x then e :: x :: xs
    else if entryKey e = entryKey x then e :: xs
    else x :: insertStream e xs

/-- The entries whose keys are not named stay; the list closes up (R38, R46). -/
def removeStreams (keys : List Nat) (streams : List StreamEntry) : List StreamEntry :=
  streams.filter fun e => !keys.contains (entryKey e)

/-- The list's keys rise strictly, so no two entries have one key (R38). -/
def keysAscend : List StreamEntry → Bool
  | [] => true
  | [_] => true
  | a :: b :: rest => decide (entryKey a < entryKey b) && keysAscend (b :: rest)

/-- What R37 and R38 say of every bank: at most 256 entries in strictly ascending key order, 96 circuit records and
16 reference records. -/
def contentsWf (p : PlanContents) : Bool :=
  decide (p.streams.length ≤ Config.streamPlaces) && keysAscend p.streams &&
    decide (p.circuits.length = 96) && decide (p.references.length = 16)

/-- The plan holds at least one enabled circuit (R56). -/
def anyEnabled (p : PlanContents) : Bool := p.circuits.any fun r => r.enabled

end Machine

end Sys2Proof
end

