-- ==== Sys2Proof/Syntax.lean ====
section
/-! DEFINITION. The 58 commands of the block: one constructor per row of spec/opcode_table.json, in the table's order.
A row's operands are what the event itself brings from outside: a port, an octet, a loss that falls together with it, the strap levels, the self-check's outcome, the disturbed storage. -/

namespace Sys2Proof

/-- The steps of the part, each whole and indivisible (95_what_each_step_holds.md). -/
inductive Instr where
  /-- R1: signal appears on a port's receive line. -/
  | signalReturn (port : PortId)
  /-- R1: a port's signal has been present for 1 ms. -/
  | linkUp (port : PortId)
  /-- R2: a port loses its receive signal. -/
  | signalLoss (port : PortId)
  /-- R3: a break begins on a port's receive line. -/
  | breakOnset (port : PortId)
  /-- R3: the break ends; the line then carries signal or not. -/
  | breakRelease (port : PortId) (signalAfter : Bool)
  /-- R4: the Head port's break timer reaches 40 ms. -/
  | breakTimerExpiry
  /-- R6: a frame start arrives. -/
  | frameStart (port : PortId)
  /-- R7: the 1,025th octet of a frame arrives. -/
  | giantFrame (port : PortId)
  /-- R7: a frame end arrives. The port may lose its link together with it: an ACK received before the loss may then be
  taken after it (R149). -/
  | frameEnd (ending : FrameEnding)
  /-- R12: Field transmit begins the frame at the head of the downstream forward buffer. -/
  | fieldTransmitBegin
  /-- R16: the Head transmit arbiter chooses and begins a frame. -/
  | headTransmitChoice
  /-- R13: the last octet of the frame in transmission is sent. -/
  | transmissionComplete (port : PortId)
  /-- R23: the sync timer expires. -/
  | syncTimerExpiry
  /-- R31: the idle engine begins the frame at the head of the metering queue. -/
  | frameBegin
  /-- R33: the next sample of the frame is unmapped or skipped. -/
  | unmappedSample
  /-- R66: the next sample of the frame is a voltage sample of an enabled reference. -/
  | voltageSample
  /-- R86: the next sample of the frame is a current sample of an enabled circuit. -/
  | currentSample
  /-- R34: the last scan of the frame has been handled. -/
  | frameMetered
  /-- R25: the engine takes an epoch flush claim. -/
  | epochFlush
  /-- R53: the engine takes the commit boundary claim. -/
  | commitBoundary
  /-- R126: the engine takes a builder take claim. -/
  | builderTake
  /-- R145: the engine takes an ack release claim. -/
  | ackRelease
  /-- R151: the engine takes a session restore claim. -/
  | sessionRestore
  /-- R103: the engine takes a circuit read claim. -/
  | circuitReadClaim
  /-- R79: the engine takes a reference read claim. -/
  | referenceReadClaim
  /-- R105: the engine takes the metering clear claim. -/
  | meteringClearClaim
  /-- R60: the scrubber's wait ends. -/
  | scrubWaitExpiry
  /-- R61: a scrubber pass ends. -/
  | scrubPassEnd
  /-- R124: the report interval timer expires. -/
  | intervalTimerExpiry
  /-- R147: the retransmit timer expires. -/
  | retransmitTimerExpiry
  /-- R160: the first queued command, of an unknown code, begins execution. -/
  | unknownCommand
  /-- R164: STATUS_READ begins execution. -/
  | statusRead
  /-- R165: COUNTERS_READ begins execution. -/
  | countersRead
  /-- R43: PLAN_CLEAR begins execution. -/
  | planClear
  /-- R44: PLAN_COPY begins execution. -/
  | planCopy
  /-- R45: STREAM_LOAD begins execution. -/
  | streamLoad
  /-- R46: STREAM_REMOVE begins execution. -/
  | streamRemove
  /-- R47: CIRCUIT_LOAD begins execution. -/
  | circuitLoad
  /-- R48: REFERENCE_LOAD begins execution. -/
  | referenceLoad
  /-- R49: PLAN_READ begins execution. -/
  | planRead
  /-- R50: PLAN_COMMIT begins execution. -/
  | planCommit
  /-- R139: SESSION_OPEN begins execution. -/
  | sessionOpen
  /-- R150: SESSION_CLOSE begins execution. -/
  | sessionClose
  /-- R168: REPORT_CONFIG begins execution. -/
  | reportConfig
  /-- R131: REPORT_FLUSH begins execution. -/
  | reportFlush
  /-- R169: CIRCUIT_READ begins execution. -/
  | circuitRead
  /-- R169: REFERENCE_READ begins execution. -/
  | referenceRead
  /-- R170: EVENT_CONFIG begins execution. -/
  | eventConfig
  /-- R104: METERING_CLEAR begins execution. -/
  | meteringClear
  /-- R171: PART_RESET begins execution. -/
  | partReset
  /-- R171: the 10 ms deadline of a pending reset expires. -/
  | partResetDeadline
  /-- R182: the supply monitor reports not good. -/
  | supplyFail
  /-- R182: the supply becomes good; STARTING then reads the straps at these levels. -/
  | supplyGood (straps : BitVec 5)
  /-- R183: the break that caused a BREAK bypass is released; the line then carries signal or not, and STARTING reads
  the straps at these levels. -/
  | bypassBreakRelease (signalAfter : Bool) (straps : BitVec 5)
  /-- R184: the 1 ms of a COMMAND bypass ends; STARTING then reads the straps at these levels. -/
  | commandBypassEnd (straps : BitVec 5)
  /-- R186: the self-check ends, every read-back having matched or not. -/
  | selfCheckEnd (passed : Bool)
  /-- R6: an octet arrives. -/
  | frameOctet (port : PortId) (octet : Byte)
  /-- R61: the storage of the active bank is disturbed: it now holds these contents and this header check. A pass in
  progress had read this many octets of the serialization before. -/
  | storageDisturbance (contents : PlanContents) (check : Word) (octetsRead : Nat)
  deriving DecidableEq, Repr

end Sys2Proof
end

