-- ==== Sys2Proof/WellFormed.lean ====
section
/-! DEFINITION. Which commands are well formed. Every operand but a disturbance's contents is confined by its type. -/

namespace Sys2Proof

/-- A STORAGE_DISTURBANCE is well formed when the contents it leaves keep what R37 and R38 say of every bank
(assumption log 3); every other command is well formed as its operands' types stand. -/
def Instr.wellFormed : Instr → Bool
  | .storageDisturbance contents _ _ => Machine.contentsWf contents
  | .signalReturn _ => true
  | .linkUp _ => true
  | .signalLoss _ => true
  | .breakOnset _ => true
  | .breakRelease _ _ => true
  | .breakTimerExpiry => true
  | .frameStart _ => true
  | .giantFrame _ => true
  | .frameEnd _ => true
  | .fieldTransmitBegin => true
  | .headTransmitChoice => true
  | .transmissionComplete _ => true
  | .syncTimerExpiry => true
  | .frameBegin => true
  | .unmappedSample => true
  | .voltageSample => true
  | .currentSample => true
  | .frameMetered => true
  | .epochFlush => true
  | .commitBoundary => true
  | .builderTake => true
  | .ackRelease => true
  | .sessionRestore => true
  | .circuitReadClaim => true
  | .referenceReadClaim => true
  | .meteringClearClaim => true
  | .scrubWaitExpiry => true
  | .scrubPassEnd => true
  | .intervalTimerExpiry => true
  | .retransmitTimerExpiry => true
  | .unknownCommand => true
  | .statusRead => true
  | .countersRead => true
  | .planClear => true
  | .planCopy => true
  | .streamLoad => true
  | .streamRemove => true
  | .circuitLoad => true
  | .referenceLoad => true
  | .planRead => true
  | .planCommit => true
  | .sessionOpen => true
  | .sessionClose => true
  | .reportConfig => true
  | .reportFlush => true
  | .circuitRead => true
  | .referenceRead => true
  | .eventConfig => true
  | .meteringClear => true
  | .partReset => true
  | .partResetDeadline => true
  | .supplyFail => true
  | .supplyGood _ => true
  | .bypassBreakRelease _ _ => true
  | .commandBypassEnd _ => true
  | .selfCheckEnd _ => true
  | .frameOctet _ _ => true

end Sys2Proof
end

