-- ==== Sys2Proof/Machine/State.lean ====
section
/-! DEFINITION. The state of the part, block by block (00_scope.md, 2 Block overview), its fault and refusal types, and the part right after reset. -/

namespace Sys2Proof.Machine

/-- No command of this block stops with a fault: the spec describes no machine stop. A closed type without members. -/
inductive Fault where
  deriving DecidableEq, Repr

/-- Why a command has no meaning. -/
inductive Refusal where
  /-- Raised by exec's arm of a command that has no meaning yet; safe, since the run stops there. -/
  | notModelled (mnemonic : String)
  deriving DecidableEq, Repr

/-- A timer: stopped (none) or running with its remaining time in milliseconds. -/
abbrev Timer := Option Nat

/-- The receive side of a port (R6, R7): no frame in reception, a frame being assembled, or a giant's remainder being
ignored. -/
inductive Reception where
  | idle
  | assembling (octets : List Byte)
  | skipping
  deriving DecidableEq, Repr

/-- The ten counters of a port, in the order of R18 and R179. -/
structure PortCounters where
  received : Word
  runts : Word
  giants : Word
  checkErrors : Word
  abortedReceptions : Word
  forwardOverruns : Word
  transmitted : Word
  abortedTransmissions : Word
  linkDowns : Word
  breaks : Word
  deriving DecidableEq, Repr

/-- A link port (1.1): its state, what its receive line carries, the milliseconds of signal measured so far in
qualification, its receive side and its counters. -/
structure Port where
  state : PortState
  line : Line
  qualified : Option Nat
  reception : Reception
  counters : PortCounters
  deriving DecidableEq, Repr

/-- A frame of the downstream forward buffer. A broadcast command's copy carries the number the model gave that
command, so that R171 can tell which copy has ended (the model's own, assumption log 10). -/
structure DownFrame where
  octets : Frame
  copyOf : Option Nat
  deriving DecidableEq, Repr

/-- The source of the frame in transmission at Head transmit (R13). A TALLY frame names the sequence of its record
while that record is in the report queue, and none once the record has left it (R142, R153). -/
inductive HeadSource where
  | response
  | forward
  | tally (record : Option Half) (retransmit : Bool)
  | event
  deriving DecidableEq, Repr

/-- The frame in transmission at Head transmit: where it came from and the octets on the wire (R13, R14). -/
structure HeadTx where
  source : HeadSource
  octets : Frame
  deriving DecidableEq, Repr

/-- The links (chapter 1): both ports, the Head port's break timer (milliseconds of break so far), both forward
buffers, both transmit sides and the arbiter's last-served class. -/
structure Links where
  field : Port
  head : Port
  breakTimer : Option Nat
  up : List Frame
  down : List DownFrame
  fieldTx : Bool
  headTx : Option HeadTx
  lastServed : TxClass
  deriving DecidableEq, Repr

/-- The sync monitor (2.2) and its counters (R36). -/
structure Sync where
  state : SyncState
  epoch : Byte
  scan : Half
  interval : Option Nat
  timer : Timer
  taken : Word
  ignored : Word
  deriving DecidableEq, Repr

/-- An admitted SAMPLE frame (2.3): node, epoch, first scan number, channel and scan counts, and the sample values in
scan-major order. -/
structure SampleFrame where
  node : Byte
  epoch : Byte
  first : Half
  channels : Nat
  scans : Nat
  values : List Half
  deriving DecidableEq, Repr

/-- A sample of the frame in metering still to be handled (R32, R33): its scan number, its value, what its stream entry
feeds (none without an entry), and whether it is the last sample of its scan. -/
structure DueSample where
  scan : Half
  value : Half
  target : Option Target
  endsScan : Bool
  deriving DecidableEq, Repr

/-- The frame in metering: the plan fixed for it (R31) and its samples still to be handled, in the order of R32. -/
structure Metering where
  plan : PlanContents
  due : List DueSample
  deriving DecidableEq, Repr

/-- Units named by an ack release or a session restore claim: a UNITS entry's circuit, direction, units and flags. -/
structure UnitsRef where
  circuit : Fin 96
  direction : Direction
  units : Nat
  test : Bool
  holdover : Bool
  deriving DecidableEq, Repr

/-- A claim waiting at the metering engine (2.5). The triggers of a builder take stand with the builder (7.3). -/
inductive Claim where
  | commitBoundary (check : Word)
  | epochFlush
  | builderTake
  | ackRelease (units : List UnitsRef)
  | sessionRestore (units : List UnitsRef)
  | circuitRead (circuit : Fin 96)
  | referenceRead (ref : Fin 16)
  | meteringClear
  deriving DecidableEq, Repr

/-- The counters of the acceptance test, the metering queue and the engine (R36), after the sync monitor's two. -/
structure ScanCounters where
  notMeteredPart : Word
  notMeteredMalformed : Word
  notMeteredNoSync : Word
  notMeteredEpoch : Word
  overruns : Word
  framesMetered : Word
  unmapped : Word
  deriving DecidableEq, Repr

/-- The metering queue and the metering engine (2.3.1, 2.4, 2.5): queued frames, the frame in metering, waiting claims
in the order they reached the engine, the last metered scan, and the counters. -/
structure Engine where
  queue : List SampleFrame
  metering : Option Metering
  claims : List Claim
  lastScan : Half
  counters : ScanCounters
  deriving DecidableEq, Repr

/-- The running state a circuit keeps per direction (5.1). Energies and unit counts are exact numbers. -/
structure DirState where
  accumulator : Nat
  partialCount : Nat
  pending : Nat
  inFlight : Nat
  blocked : Bool
  test : Bool
  holdover : Bool
  suppressed : Word
  satLoss : Nat
  floorDiscarded : Nat
  deriving DecidableEq, Repr

/-- A parked current sample: its scan number and its value after polarity (R87). -/
structure Parked where
  scan : Half
  value : Half
  deriving DecidableEq, Repr

/-- The running state of a circuit (5.1). The park queue is oldest first. -/
structure CircuitState where
  imp : DirState
  exp : DirState
  floorAcc : Nat
  floor : FloorState
  park : List Parked
  paired : Word
  missed : Word
  unqualified : Word
  flushed : Word
  duplicate : Word
  deriving DecidableEq, Repr

/-- A sample of a history ring: scan number and value as the node sent it (4.1). -/
structure RingSample where
  scan : Half
  value : Half
  deriving DecidableEq, Repr

/-- The census of a reference (4.2). -/
structure Census where
  state : CensusState
  lastCrossing : Option Half
  baseValid : Bool
  watch : Option Half
  periods : Nat
  runShort : Nat
  shorts : Nat
  runLong : Nat
  lastPeriod : Nat
  lastShort : Nat
  lastLong : Nat
  deriving DecidableEq, Repr

/-- A reference (chapter 4): its history ring, oldest first, its census and its counters (R80). -/
structure RefState where
  ring : List RingSample
  census : Census
  stored : Word
  duplicates : Word
  late : Word
  gaps : Word
  deriving DecidableEq, Repr

/-- The scrubber's pass state (3.4): stopped, waiting with the time left, or running with its position in the
serialization and its running check. -/
inductive PassState where
  | stopped
  | waiting (remaining : Nat)
  | running (position : Nat) (check : Word)
  deriving DecidableEq, Repr

/-- The plan store and the plan scrubber (chapter 3). -/
structure PlanStore where
  active : Bank
  shadow : Bank
  pass : PassState
  passes : Word
  deriving DecidableEq, Repr

/-- A closing entry (R55, R132): what the closed tenure left, and WAITING (bound none) or SENT, bound to the sequence of
the record that carries it. -/
structure Closing where
  circuit : Fin 96
  account : Word
  impUnits : Nat
  expUnits : Nat
  impPartial : Nat
  expPartial : Nat
  impResidue : Nat
  expResidue : Nat
  quantum : Wide
  acceleration : Byte
  test : Bool
  holdover : Bool
  bound : Option Half
  deriving DecidableEq, Repr

/-- An entry of a record (R119, R120). -/
inductive Entry where
  | units (ref : UnitsRef) (account : Word)
  | close (closing : Closing)
  deriving DecidableEq, Repr

/-- A record of the report queue: the values of R118 and its state (R122). -/
structure Record where
  session : Half
  sequence : Half
  epoch : Byte
  stamp : Half
  sync : SyncState
  entries : List Entry
  state : RecordState
  deriving DecidableEq, Repr

/-- The kinds of trigger a waiting run carries (R125). -/
structure Triggers where
  interval : Bool
  flush : Bool
  urgent : Bool
  deriving DecidableEq, Repr

/-- The report builder (7.3): cursor, interval timer (milliseconds), idle-interval count, waiting run, report interval
in seconds, urgent level, closing list, and the counters of R135. -/
structure Builder where
  cursor : Fin 96
  timer : Timer
  idle : Nat
  waiting : Option Triggers
  interval : Nat
  urgent : Nat
  closings : List Closing
  built : Word
  emptyBuilt : Word
  dropped : Word
  deriving DecidableEq, Repr

/-- The session controller (8.1) and the counters of R154. -/
structure Session where
  state : SessionState
  id : Option Half
  next : Half
  highest : Option Half
  timer : Timer
  timeouts : Nat
  cause : HoldCause
  retry : Nat
  timeout : Nat
  queue : List Record
  acksTaken : Word
  acksStale : Word
  acksStray : Word
  retransmitTimeouts : Word
  retransmissions : Word
  acknowledged : Word
  restored : Word
  deriving DecidableEq, Repr

/-- What became of the copy that R9 placed in the downstream forward buffer for a broadcast (R171). -/
inductive CopyFate where
  | buffered
  | completed
  | lost
  deriving DecidableEq, Repr

/-- A command of the command queue: the whole COMMAND body (9.1). A broadcast (R158) carries the model's number of its
downstream copy and that copy's fate. -/
structure Command where
  tag : Byte
  code : Byte
  args : List Byte
  broadcast : Option (Nat × CopyFate)
  deriving DecidableEq, Repr

/-- What a command held in execution waits for (R159). -/
inductive Held where
  | commit
  | circuitRead (circuit : Fin 96)
  | referenceRead (ref : Fin 16)
  | meteringClear
  | sessionClose (records closings : Nat)
  | flush
  deriving DecidableEq, Repr

/-- A response: tag, code echoed, status and results (R161). -/
structure Response where
  tag : Byte
  code : Byte
  status : Status
  results : List Byte
  deriving DecidableEq, Repr

/-- A place of the response queue: the response, whether it joined from its completed command (a copy queued under R157
did not), and whether its completion starts the pending reset (R171). -/
structure QueuedResponse where
  response : Response
  original : Bool
  resets : Bool
  deriving DecidableEq, Repr

/-- A pending reset (R171): the time left to its deadline, and the downstream copy whose completion starts it. -/
structure ResetPending where
  remaining : Nat
  copyOf : Option Nat
  deriving DecidableEq, Repr

/-- The command agent (9.1) and the counters of R156 to R158. The first command of the queue is held in execution when
held is some, and has completed without a place for its response when waiting is some. -/
structure Agent where
  queue : List Command
  held : Option Held
  responses : List QueuedResponse
  retained : Option Response
  waiting : Option QueuedResponse
  resetPending : Option ResetPending
  nextCopy : Nat
  malformed : Word
  overruns : Word
  duplicates : Word
  repeated : Word
  broadcastsIgnored : Word
  deriving DecidableEq, Repr

/-- An event record (10.1). -/
structure EventRecord where
  kind : EventKind
  subject : Half
  repeats : Nat
  stamp : Word
  value : Word
  carried : Bool
  deriving DecidableEq, Repr

/-- The event queue (10.1), the events-lost count, the event mask and the events lost counter. -/
structure Events where
  queue : List EventRecord
  lost : Nat
  mask : Word
  lostCounter : Word
  deriving DecidableEq, Repr

/-- The part controller (chapter 11). The relay drive asserted opens the bypass path (11.7). The bypass timer times the
BYPASS of a COMMAND reset (R184). -/
structure PartController where
  state : PartState
  cause : ResetCause
  tap : BitVec 5
  ms : Word
  selfCheckPassed : Bool
  relayDrive : Bool
  bypassTimer : Timer
  deriving DecidableEq, Repr

/-- The whole part, and the commands that wait, first in first out. -/
structure State where
  part : PartController
  links : Links
  sync : Sync
  engine : Engine
  circuits : List CircuitState
  refs : List RefState
  plan : PlanStore
  builder : Builder
  session : Session
  agent : Agent
  events : Events
  pending : List Instr
  deriving DecidableEq, Repr

/-- The outcome of a command. -/
abbrev Result := Host.Outcome State Fault Refusal

/-- Every port counter 0 (R5). -/
def PortCounters.zero : PortCounters := ⟨0, 0, 0, 0, 0, 0, 0, 0, 0, 0⟩

/-- A port after a full reset, with the line outside as it is (R5). -/
def Port.reset (line : Line) : Port where
  state := .down
  line := line
  qualified := none
  reception := .idle
  counters := .zero

/-- The links after a full reset (R5). -/
def Links.reset (fieldLine headLine : Line) : Links where
  field := .reset fieldLine
  head := .reset headLine
  breakTimer := none
  up := []
  down := []
  fieldTx := false
  headTx := none
  lastServed := .own

/-- The sync monitor after a full reset (R20, R36). -/
def Sync.reset : Sync where
  state := .none
  epoch := 0
  scan := 0
  interval := none
  timer := none
  taken := 0
  ignored := 0

/-- Every counter of R36 kept by the engine 0. -/
def ScanCounters.zero : ScanCounters := ⟨0, 0, 0, 0, 0, 0, 0⟩

/-- The metering queue and engine after a full reset (R29, R30, R32). -/
def Engine.reset : Engine where
  queue := []
  metering := none
  claims := []
  lastScan := 0
  counters := .zero

/-- A direction's cleared running state (R84). -/
def DirState.cleared : DirState where
  accumulator := 0
  partialCount := 0
  pending := 0
  inFlight := 0
  blocked := false
  test := false
  holdover := false
  suppressed := 0
  satLoss := 0
  floorDiscarded := 0

/-- A circuit's cleared running state (R84). -/
def CircuitState.cleared : CircuitState where
  imp := .cleared
  exp := .cleared
  floorAcc := 0
  floor := .active
  park := []
  paired := 0
  missed := 0
  unqualified := 0
  flushed := 0
  duplicate := 0

/-- A census in its starting condition with the given state (R68). -/
def Census.restarted (state : CensusState) : Census where
  state := state
  lastCrossing := none
  baseValid := false
  watch := none
  periods := 0
  runShort := 0
  shorts := 0
  runLong := 0
  lastPeriod := 0
  lastShort := 0
  lastLong := 0

/-- A reference after a full reset (R65, R68, R80). -/
def RefState.reset : RefState where
  ring := []
  census := .restarted .idle
  stored := 0
  duplicates := 0
  late := 0
  gaps := 0

/-- The plan store and scrubber after a full reset (R37, R41, R60). -/
def PlanStore.reset : PlanStore where
  active := emptyBank
  shadow := emptyBank
  pass := .stopped
  passes := 0

/-- The report builder after a full reset (R123, R135). -/
def Builder.reset : Builder where
  cursor := 0
  timer := none
  idle := 0
  waiting := none
  interval := Config.defaultInterval
  urgent := Config.defaultUrgent
  closings := []
  built := 0
  emptyBuilt := 0
  dropped := 0

/-- The session controller after a full reset (R137, R154). -/
def Session.reset : Session where
  state := .closed
  id := none
  next := 0
  highest := none
  timer := none
  timeouts := 0
  cause := .none
  retry := Config.defaultRetry
  timeout := Config.defaultTimeout
  queue := []
  acksTaken := 0
  acksStale := 0
  acksStray := 0
  retransmitTimeouts := 0
  retransmissions := 0
  acknowledged := 0
  restored := 0

/-- The command agent after a full reset (R155). -/
def Agent.reset : Agent where
  queue := []
  held := none
  responses := []
  retained := none
  waiting := none
  resetPending := none
  nextCopy := 0
  malformed := 0
  overruns := 0
  duplicates := 0
  repeated := 0
  broadcastsIgnored := 0

/-- The event queue after a full reset: empty, every position of the mask enabled (R172, R196). -/
def Events.reset : Events where
  queue := []
  lost := 0
  mask := 0x0007FFFF
  lostCounter := 0

/-- The part controller at the start of BYPASS (R181, R184). -/
def PartController.reset (cause : ResetCause) : PartController where
  state := .bypass
  cause := cause
  tap := 0
  ms := 0
  selfCheckPassed := true
  relayDrive := false
  bypassTimer := if cause = .command then some Config.commandBypass else none

/-- Everything a full reset leaves (R181): what a cause makes of the part, the receive lines outside kept as they are. -/
def State.afterReset (cause : ResetCause) (fieldLine headLine : Line) (pending : List Instr) : State where
  part := .reset cause
  links := .reset fieldLine headLine
  sync := .reset
  engine := .reset
  circuits := List.replicate 96 .cleared
  refs := List.replicate 16 .reset
  plan := .reset
  builder := .reset
  session := .reset
  agent := .reset
  events := .reset
  pending := pending

/-- The machine right after reset: power has just been applied (R181, R182), the supply is not yet reported good, and
no signal is on either line (assumption log 2). No command waits. -/
def State.reset : State := State.afterReset .power .noSignal .noSignal []

end Sys2Proof.Machine
end

