-- ==== Sys2Proof/Machine/Flags.lean ====
section
/-! DEFINITION. The tests the chapters make on the state: scan order, gates, selections, masks, windows. Each answers yes or no and changes nothing. -/

namespace Sys2Proof.Machine

/-- How many scans u lies beyond t, modulo 65536 (R19). -/
def beyond (u t : Half) : Nat := (u - t).toNat

/-- The scan u is newer than t: the modular difference lies from 1 to 32767 (R19). -/
def newer (u t : Half) : Bool := decide (1 ≤ beyond u t) && decide (beyond u t ≤ 32767)

/-- The scan u is older than t: the modular difference lies from 32768 to 65535 (R19). -/
def older (u t : Half) : Bool := decide (32768 ≤ beyond u t)

/-- The ports run: the part state is neither BYPASS nor STARTING (R5). -/
def running (s : State) : Bool :=
  match s.part.state with
  | .bypass => false
  | .starting => false
  | .passive => true
  | .defect => true
  | .idle => true
  | .metering => true
  | .faulted => true

/-- In DEFECT, IDLE, METERING and FAULTED the part takes frames for itself and the event queue takes postings (R10,
R172). -/
def takesIn : PartState → Bool
  | .bypass => false
  | .starting => false
  | .passive => false
  | .defect => true
  | .idle => true
  | .metering => true
  | .faulted => true

/-- The part takes frames for itself and the event queue takes postings (R10, R172). -/
def takesPart (s : State) : Bool := takesIn s.part.state

/-- The port a name stands for. -/
def Links.port (l : Links) : PortId → Port
  | .field => l.field
  | .head => l.head

/-- The port a name stands for. -/
def State.port (s : State) (p : PortId) : Port := s.links.port p

/-- The session carries records: OPEN or HOLD (R125, R138). -/
def sessionLive (s : State) : Bool :=
  match s.session.state with
  | .closed => false
  | .open_ => true
  | .hold => true

/-- The two conditions the builder tests on a trigger and again at the take (R125, R126). -/
def builderAccepts (s : State) : Bool :=
  sessionLive s && decide (s.session.queue.length < Config.reportPlaces)

/-- The sequence of the oldest record, or the next sequence when the queue is empty (R136). -/
def Session.base (s : Session) : Half :=
  match s.queue with
  | [] => s.next
  | r :: _ => r.sequence

/-- The place of a sequence counted from one before the base, the measure of R142 and R143. -/
def Session.placeFrom (s : Session) (q : Half) : Nat := (q - (s.base - 1)).toNat

/-- The next eligible record (R141): in OPEN, the oldest record that is UNSENT or RESEND, if it lies within the window. -/
def Session.eligible (s : Session) : Option Record :=
  match s.state with
  | .closed => none
  | .hold => none
  | .open_ =>
    match s.queue.find? fun r => r.state != .sent with
    | none => none
    | some r => if (r.sequence - s.base).toNat < Config.windowPlaces then some r else none

/-- The own class has a frame waiting (R17). -/
def ownWaiting (s : State) : Bool := s.session.eligible.isSome || !s.events.queue.isEmpty

/-- The mask lets a kind pass; STARTED and PLAN_FAULT always pass (R173). -/
def maskPasses (mask : Word) (k : EventKind) : Bool :=
  match k with
  | .started => true
  | .planFault => true
  | _ => mask.getLsbD (eventCode k)

/-- The select of a record includes a direction (R95). -/
def selects (sel : Select) (d : Direction) : Bool :=
  match sel, d with
  | .both, _ => true
  | .imp, .imp => true
  | .exp, .exp => true
  | .imp, .exp => false
  | .exp, .imp => false

/-- The running state of one direction. -/
def CircuitState.dir (c : CircuitState) : Direction → DirState
  | .imp => c.imp
  | .exp => c.exp

/-- The owed count (R85). -/
def DirState.owed (d : DirState) : Nat := d.pending + d.inFlight

/-- The running state of a circuit. -/
def State.circ (s : State) (c : Fin 96) : CircuitState := s.circuits.getD c.val .cleared

/-- The state of a reference. -/
def State.ref (s : State) (r : Fin 16) : RefState := s.refs.getD r.val .reset

/-- A pair is accumulated only when the census of its reference is QUALIFIED or UNCHECKED (R77). -/
def gateOpen (c : CensusState) : Bool :=
  match c with
  | .qualified => true
  | .unchecked => true
  | .idle => false
  | .qualifying => false
  | .outOfBand => false
  | .lost => false

/-- The sample of a ring with a scan number (R66, R86). -/
def ringLookup (ring : List RingSample) (t : Half) : Option RingSample := ring.find? fun x => x.scan == t

/-- The newest sample of a ring, its last (R65). -/
def ringNewest (ring : List RingSample) : Option RingSample := ring.getLast?

/-- What the engine does with a sample whose stream feeds a target, under the plan fixed for the frame (R33): none for a
sample that is unmapped or skipped. -/
inductive Handling where
  | unmapped
  | skipped
  | voltage (ref : Fin 16)
  | current (circuit : Fin 96)
  deriving DecidableEq, Repr

/-- The table of R33. -/
def handlingOf (p : PlanContents) : Option Target → Handling
  | none => .unmapped
  | some .ignore => .skipped
  | some (.voltage r) => if (refRecord p r).enabled then .voltage r else .skipped
  | some (.current c) => if (circuitRecord p c).enabled then .current c else .skipped

/-- The engine is at a frame boundary: no frame is in metering (R35). -/
def atBoundary (s : State) : Bool := s.engine.metering.isNone

/-- The claim the engine takes next: the first waiting one, at a frame boundary (R35). -/
def nextClaim (s : State) : Option Claim := if atBoundary s then s.engine.claims.head? else none

/-- The command that begins execution (R159): the first of the queue, when it is neither held nor waiting for a place for
its response, and no reset is pending (R171). -/
def beginning (s : State) : Option Command :=
  match s.agent.held, s.agent.waiting, s.agent.resetPending with
  | none, none, none => s.agent.queue.head?
  | _, _, _ => none

/-- A WAITING closing entry (R132). -/
def Closing.isWaiting (c : Closing) : Bool := c.bound.isNone

/-- The circuits of the closing set, ascending (R53): enabled in the active bank, and disabled or with another account
in the shadow bank. -/
def closingSet (active shadow : PlanContents) : List (Fin 96) :=
  allCircuits.filter fun c =>
    (circuitRecord active c).enabled &&
      (!(circuitRecord shadow c).enabled || (circuitRecord shadow c).account != (circuitRecord active c).account)

end Sys2Proof.Machine
end

