-- ==== Sys2Proof/Machine/Octets.lean ====
section
/-! DEFINITION. Octets: big-endian fields, the two frame and plan checks (R191, R198), and the canonical plan serialization (R198). -/

namespace Sys2Proof.Machine

/-- The n octets of a field, most significant first (chapter 12). -/
def be : Nat → Nat → List Byte
  | 0, _ => []
  | n + 1, v => BitVec.ofNat 8 (v / 256 ^ n) :: be n v

/-- The value of a field of octets, most significant first (chapter 12). -/
def ofBe (l : List Byte) : Nat := l.foldl (fun a b => a * 256 + b.toNat) 0

/-- The value of the field of n octets at an offset (chapter 12). -/
def fieldAt (l : List Byte) (offset n : Nat) : Nat := ofBe ((l.drop offset).take n)

/-- The octet at an offset. -/
def octetAt (l : List Byte) (offset : Nat) : Byte := l.getD offset 0

/-- A left fold that settles its value at every octet, so that the kernel evaluates long checks in constant depth.
It is the plain left fold (Laws/Octets.lean, foldOctets_eq_foldl). -/
def foldOctets (f : Nat → Byte → Nat) : List Byte → Nat → Nat
  | [], n => n
  | b :: bs, n =>
    match f n b with
    | 0 => foldOctets f bs 0
    | m + 1 => foldOctets f bs (m + 1)

/-- One bit of the CRC-16 (R191): shift toward the most significant end; where the bit shifted out differs from the
incoming bit, combine with 0x1021. -/
def crc16Bit (r : Half) (incoming : Bool) : Half :=
  if r.getMsbD 0 != incoming then (r <<< 1) ^^^ 0x1021#16 else r <<< 1

/-- One octet of the CRC-16, most significant bit first (R191). -/
def crc16Octet (r : Half) (b : Byte) : Half :=
  [0, 1, 2, 3, 4, 5, 6, 7].foldl (fun q i => crc16Bit q (b.getMsbD i)) r

/-- The frame check over a run of octets: the register starts at 0xFFFF, no final inversion (R191). -/
def crc16 (l : List Byte) : Half :=
  BitVec.ofNat 16 (foldOctets (fun n b => (crc16Octet (BitVec.ofNat 16 n) b).toNat) l 0xFFFF)

/-- One bit of the CRC-32 in its reflected form, 0xEDB88320 (R198). -/
def crc32Bit (r : Word) : Word := if r.getLsbD 0 then (r >>> 1) ^^^ 0xEDB88320#32 else r >>> 1

/-- One octet of the CRC-32, least significant bit first (R198). -/
def crc32Octet (r : Word) (b : Byte) : Word :=
  crc32Bit (crc32Bit (crc32Bit (crc32Bit (crc32Bit (crc32Bit (crc32Bit (crc32Bit (r ^^^ b.setWidth 32))))))))

/-- The running check of a pass over octets, from the register's value so far (R61, R198). -/
def crc32Run (r : Word) (l : List Byte) : Word :=
  BitVec.ofNat 32 (foldOctets (fun n b => (crc32Octet (BitVec.ofNat 32 n) b).toNat) l r.toNat)

/-- The CRC-32 initial value (R61, R198). -/
def crc32Init : Word := 0xFFFFFFFF

/-- The check value of a run of octets: the register is inverted after the last (R198). -/
def crc32 (l : List Byte) : Word := ~~~ crc32Run crc32Init l

/-- The four octets of a stream entry: node, channel, role code, and index, 0 for IGNORE (R197, R198). -/
def streamOctets (e : StreamEntry) : List Byte :=
  let tail : List Byte := match e.target with
    | .voltage r => [0, BitVec.ofNat 8 r.val]
    | .current c => [1, BitVec.ofNat 8 c.val]
    | .ignore => [2, 0]
  BitVec.ofNat 8 e.node.val :: BitVec.ofNat 8 e.channel.val :: tail

/-- The 29 octets of a circuit configuration record (R166, R198). -/
def circuitOctets (r : CircuitRecord) : List Byte :=
  [yesNo r.enabled] ++ be 4 r.account.toNat ++ [BitVec.ofNat 8 r.reference.val, polarityCode r.polarity] ++
    be 2 r.gain.toNat ++ be 2 r.offset.toNat ++ be 6 r.quantum.toNat ++ [r.divisor, r.acceleration, selectCode r.select,
    yesNo r.floorEnable] ++ be 2 r.floorStep.toNat ++ be 6 r.floorLimit.toNat

/-- The 8 octets of a reference configuration record (R166, R198). -/
def refOctets (r : RefRecord) : List Byte :=
  [yesNo r.enabled, yesNo r.censusEnable] ++ be 2 r.zeroOffset.toNat ++ be 2 r.bandMin.toNat ++ be 2 r.bandMax.toNat

/-- The canonical serialization of a bank's contents (R198). -/
def serialize (p : PlanContents) : List Byte :=
  be 2 p.streams.length ++ p.streams.flatMap streamOctets ++ p.circuits.flatMap circuitOctets ++
    p.references.flatMap refOctets

/-- The check value of a bank's contents (R41, R198). -/
def planCheck (p : PlanContents) : Word := crc32 (serialize p)

/-- A frame of the given kind, address and body, with its body length and its frame check (R14, R191). -/
def buildFrame (kind address : Byte) (body : List Byte) : Frame :=
  let front := kind :: address :: be 2 body.length ++ body
  front ++ be 2 (crc16 front).toNat

/-- The kind octet of a frame (12.1). -/
def frameKind (f : Frame) : Byte := octetAt f 0

/-- The address octet of a frame (12.1). -/
def frameAddress (f : Frame) : Byte := octetAt f 1

/-- The body length field of a frame (12.1). -/
def frameBodyLength (f : Frame) : Nat := fieldAt f 2 2

/-- The body of a good frame (12.1). -/
def frameBody (f : Frame) : List Byte := (f.drop 4).take (frameBodyLength f)

/-- The frame check and length comparisons of R7: the octet count is 6 plus the body length field, and the computed
check equals the check field. -/
def goodFrame (f : Frame) : Bool :=
  f.length == Config.smallestFrame + frameBodyLength f &&
    (crc16 (f.take (4 + frameBodyLength f))).toNat == fieldAt f (4 + frameBodyLength f) 2

end Sys2Proof.Machine
end

