-- ==== Sys2Proof/Machine/Ops.lean ====
section
/-! DEFINITION. The shared operations on the state: block updates, event posting, buffers and transmissions, the session's HOLD, claims and triggers, the command agent's completion, and the full reset. -/

namespace Sys2Proof.Machine

/-- An event that cannot occur in a state does not happen there: the state stays (assumption log 1). -/
def occurs (enabled : Bool) (s t : State) : Result := .next (if enabled then t else s)

/-- A running timer expires when its remaining time is zero (R23, R124, R147, R184). -/
def expires (t : Timer) : Bool := t == some 0

/-- A running measure has reached a number of milliseconds (R1, R4). -/
def reached (n : Nat) (measure : Option Nat) : Bool :=
  match measure with
  | none => false
  | some m => decide (n ≤ m)

/-! ### Block updates -/

/-- Updates the part controller. -/
def State.onPart (f : PartController → PartController) (s : State) : State := { s with part := f s.part }
/-- Updates the links. -/
def State.onLinks (f : Links → Links) (s : State) : State := { s with links := f s.links }
/-- Updates the sync monitor. -/
def State.onSync (f : Sync → Sync) (s : State) : State := { s with sync := f s.sync }
/-- Updates the metering queue and engine. -/
def State.onEngine (f : Engine → Engine) (s : State) : State := { s with engine := f s.engine }
/-- Updates the circuit table. -/
def State.onCircuits (f : List CircuitState → List CircuitState) (s : State) : State := { s with circuits := f s.circuits }
/-- Updates the references. -/
def State.onRefs (f : List RefState → List RefState) (s : State) : State := { s with refs := f s.refs }
/-- Updates the plan store. -/
def State.onPlan (f : PlanStore → PlanStore) (s : State) : State := { s with plan := f s.plan }
/-- Updates the report builder. -/
def State.onBuilder (f : Builder → Builder) (s : State) : State := { s with builder := f s.builder }
/-- Updates the session controller. -/
def State.onSession (f : Session → Session) (s : State) : State := { s with session := f s.session }
/-- Updates the command agent. -/
def State.onAgent (f : Agent → Agent) (s : State) : State := { s with agent := f s.agent }
/-- Updates the event queue. -/
def State.onEvents (f : Events → Events) (s : State) : State := { s with events := f s.events }

/-- Updates one port. -/
def Links.onPort (p : PortId) (f : Port → Port) (l : Links) : Links :=
  match p with
  | .field => { l with field := f l.field }
  | .head => { l with head := f l.head }

/-- Updates one port. -/
def State.onPort (p : PortId) (f : Port → Port) : State → State := State.onLinks (Links.onPort p f)

/-- Updates a port's counters. -/
def Port.count (f : PortCounters → PortCounters) (p : Port) : Port := { p with counters := f p.counters }

/-- Updates one circuit's running state. -/
def State.onCirc (c : Fin 96) (f : CircuitState → CircuitState) (s : State) : State :=
  s.onCircuits fun l => l.set c.val (f (s.circ c))

/-- Updates one direction of a circuit. -/
def CircuitState.onDir (d : Direction) (f : DirState → DirState) (c : CircuitState) : CircuitState :=
  match d with
  | .imp => { c with imp := f c.imp }
  | .exp => { c with exp := f c.exp }

/-- Updates one direction of one circuit. -/
def State.onDir (c : Fin 96) (d : Direction) (f : DirState → DirState) : State → State :=
  State.onCirc c (CircuitState.onDir d f)

/-- Updates one reference. -/
def State.onRef (r : Fin 16) (f : RefState → RefState) (s : State) : State :=
  s.onRefs fun l => l.set r.val (f (s.ref r))

/-- Updates the counters of the engine. -/
def State.onScanCounters (f : ScanCounters → ScanCounters) : State → State :=
  State.onEngine fun e => { e with counters := f e.counters }

/-! ### Events (chapter 10) -/

/-- A waiting record of a kind and subject; a carried record never matches (R174). -/
def matchesPosting (k : EventKind) (subject : Half) (r : EventRecord) : Bool :=
  r.kind == k && r.subject == subject && !r.carried

/-- Applies f to the element that satisfies p and stands after n others that do. -/
def updateMatch {α : Type} (p : α → Bool) (f : α → α) : Nat → List α → List α
  | _, [] => []
  | 0, x :: xs => if p x then f x :: xs else x :: updateMatch p f 0 xs
  | n + 1, x :: xs => x :: updateMatch p f (if p x then n else n + 1) xs

/-- A posting coalesces into a record: the repeat count rises, held at 255; stamp and value are the posting's (R174). -/
def coalesced (stamp value : Word) (r : EventRecord) : EventRecord :=
  { r with repeats := min (r.repeats + 1) Config.repeatMax, stamp := stamp, value := value }

/-- The queue after a posting coalesced. Where more than one waiting record matches, which of them takes the posting is
left open (Config.coalesceChoice). -/
def coalesceInto (k : EventKind) (subject : Half) (stamp value : Word) (q : List EventRecord) : List EventRecord :=
  let matches_ := (q.filter (matchesPosting k subject)).length
  updateMatch (matchesPosting k subject) (coalesced stamp value)
    (if matches_ ≤ 1 then 0 else Config.coalesceChoice stamp value (eventCode k) subject % matches_) q

/-- A posting that passed the mask: it coalesces, or makes a record, or is lost (R174). -/
def takePosting (k : EventKind) (subject : Half) (stamp value : Word) (e : Events) : Events :=
  if e.queue.any (matchesPosting k subject) then { e with queue := coalesceInto k subject stamp value e.queue }
  else if e.queue.length < Config.eventPlaces then
    { e with queue := e.queue ++ [⟨k, subject, 0, stamp, value, false⟩] }
  else { e with lost := min (e.lost + 1) Config.lostMax, lostCounter := e.lostCounter + 1 }

/-- The event queue after a posting: it takes none in PASSIVE, BYPASS and STARTING (R172) and discards one whose kind is
masked (R173); the stamp is the millisecond counter. -/
def posted (k : EventKind) (subject : Half) (value : Word) (p : PartController) (e : Events) : Events :=
  if takesIn p.state && maskPasses e.mask k then takePosting k subject p.ms value e else e

/-- Posts an event (R172 to R174). -/
def post (k : EventKind) (subject : Half) (value : Word) (s : State) : State := s.onEvents (posted k subject value s.part)

/-! ### Full reset (R181) -/

/-- A reset begins: everything takes its value after a full reset; the lines outside and the waiting commands stay. -/
def fullReset (cause : ResetCause) (s : State) : State :=
  State.afterReset cause s.links.field.line s.links.head.line s.pending

/-- The part enters STARTING (R185, R188): the millisecond counter starts from 0 and the straps are read once. -/
def enterStarting (straps : BitVec 5) : State → State :=
  State.onPart fun p => { p with state := .starting, tap := straps, ms := 0, bypassTimer := none }

/-! ### The session's HOLD (R148, R149) -/

/-- Every SENT record becomes RESEND (R147, R149). -/
def markResend (q : List Record) : List Record :=
  q.map fun r => if r.state = .sent then { r with state := .resend } else r

/-- The session id as an event subject; 0 when none is held. -/
def Session.idValue (s : Session) : Half := s.id.getD 0

/-- The session enters HOLD: the cause, the timer stopped, REPORT_HOLD posted (R148). -/
def enterHold (cause : HoldCause) (s : State) : State :=
  post .reportHold s.session.idValue ((holdCode cause).setWidth 32)
    (s.onSession fun q => { q with state := .hold, cause := cause, timer := none })

/-- The session returns from HOLD to OPEN: SENT records become RESEND, the timer stays stopped, REPORT_RESUMED carries
the base (R149). -/
def resumeSession (s : State) : State :=
  post .reportResumed s.session.idValue (s.session.base.setWidth 32)
    (s.onSession fun q =>
      { q with state := .open_, cause := .none, timeouts := 0, timer := none, queue := markResend q.queue })

/-! ### Forward buffers and transmissions (1.4, 1.5) -/

/-- A frame offered to the upstream forward buffer (R11). -/
def offerUp (f : Frame) (s : State) : State :=
  if s.links.up.length < Config.forwardPlaces then s.onLinks fun l => { l with up := l.up ++ [f] }
  else s.onPort .field (Port.count fun k => { k with forwardOverruns := k.forwardOverruns + 1 })

/-- A frame offered to the downstream forward buffer (R12). -/
def offerDown (f : DownFrame) (s : State) : State :=
  if s.links.down.length < Config.forwardPlaces then s.onLinks fun l => { l with down := l.down ++ [f] }
  else s.onPort .head (Port.count fun k => { k with forwardOverruns := k.forwardOverruns + 1 })

/-- Notes what became of a broadcast's downstream copy in the queued command it belongs to (R171). -/
def noteCopy (copyOf : Option Nat) (fate : CopyFate) : State → State :=
  State.onAgent fun a => { a with queue := a.queue.map fun c =>
    match c.broadcast, copyOf with
    | some (n, _), some m => if n = m then { c with broadcast := some (n, fate) } else c
    | _, _ => c }

/-- The frame at the head of the downstream forward buffer leaves it, and Field transmit is free (R12, R13). -/
def dropDownHead : State → State :=
  State.onLinks fun l => { l with fieldTx := false, down := l.down.tail }

/-- The command that a downstream frame is the copy of, for the frame at the head of the buffer. -/
def downHeadCopy (s : State) : Option Nat :=
  match s.links.down with
  | [] => none
  | d :: _ => d.copyOf

/-- The abort of a transmission at Field transmit: the frame is removed and lost (R13). -/
def abortField (s : State) : State :=
  if s.links.fieldTx then
    (dropDownHead (noteCopy (downHeadCopy s) .lost s)).onPort .field
      (Port.count fun k => { k with abortedTransmissions := k.abortedTransmissions + 1 })
  else s

/-- Every carried record becomes waiting again, in its place (R177). -/
def releaseCarried : State → State :=
  State.onEvents fun e => { e with queue := e.queue.map fun r => { r with carried := false } }

/-- What the source of the frame does when its transmission is aborted (R13): a forward frame is lost, a response stays,
a record keeps its state, carried events become waiting. -/
def abortSource (src : HeadSource) (s : State) : State :=
  match src with
  | .response => s
  | .forward => s.onLinks fun l => { l with up := l.up.tail }
  | .tally _ _ => s
  | .event => releaseCarried s

/-- The abort of a transmission at Head transmit (R13). -/
def abortHead (s : State) : State :=
  match s.links.headTx with
  | none => s
  | some tx =>
    ((abortSource tx.source s).onLinks fun l => { l with headTx := none }).onPort .head
      (Port.count fun k => { k with abortedTransmissions := k.abortedTransmissions + 1 })

/-- The abort of the transmission in progress at a port, if any (R13). -/
def abortTx : PortId → State → State
  | .field => abortField
  | .head => abortHead

/-! ### Claims and triggers (2.5, 7.4) -/

/-- A claim reaches the engine and joins the end of the order (R35). -/
def placeClaim (c : Claim) : State → State := State.onEngine fun e => { e with claims := e.claims ++ [c] }

/-- The engine takes the first waiting claim out of the order (R35). -/
def dropClaim : State → State := State.onEngine fun e => { e with claims := e.claims.tail }

/-- The kinds of two triggers together. -/
def Triggers.join (a b : Triggers) : Triggers :=
  ⟨a.interval || b.interval, a.flush || b.flush, a.urgent || b.urgent⟩

/-- A trigger reaches the builder (R125): it joins the waiting run, or places a builder take claim, or is dropped. -/
def trigger (t : Triggers) (s : State) : State :=
  if builderAccepts s then
    match s.builder.waiting with
    | some w => s.onBuilder fun b => { b with waiting := some (w.join t) }
    | none => placeClaim .builderTake (s.onBuilder fun b => { b with waiting := some t })
  else s.onBuilder fun b => { b with dropped := b.dropped + 1 }

/-! ### The command agent (9.3) -/

/-- A response joins the response queue (with room) or becomes the waiting response; joining, it becomes the retained
last response and its command leaves the command queue (R161). -/
def formResponse (r : QueuedResponse) (s : State) : State :=
  s.onAgent fun a =>
    if a.responses.length < Config.responsePlaces then
      { a with responses := a.responses ++ [r], retained := some r.response, queue := a.queue.tail, held := none }
    else { a with waiting := some r, held := none }

/-- The command in execution completes with a status and results (R161). -/
def completeAs (resets : Bool) (st : Status) (results : List Byte) (s : State) : State :=
  match s.agent.queue with
  | [] => s
  | c :: _ => formResponse ⟨⟨c.tag, c.code, st, results⟩, true, resets⟩ s

/-- The command in execution completes with a status and results (R161). -/
def complete (st : Status) (results : List Byte) : State → State := completeAs false st results

/-- A broadcast completes: it forms no response (R158). -/
def completeBroadcast : State → State := State.onAgent fun a => { a with queue := a.queue.tail, held := none }

/-- The agent holds the command in execution (R159). -/
def hold (h : Held) : State → State := State.onAgent fun a => { a with held := some h }

/-- The command held for an outcome completes with it (R159); when no command is held for it, nothing completes. -/
def completeHeld (h : Held) (st : Status) (results : List Byte) (s : State) : State :=
  if s.agent.held = some h then complete st results s else s

/-- The results of WRONG_STATE: part state and session state at the refusal (R163). -/
def wrongStateResults (s : State) : List Byte := [partCode s.part.state, sessionCode s.session.state]

/-- The command is refused with WRONG_STATE (R163). -/
def refuseState (s : State) : State := complete .wrongState (wrongStateResults s) s

/-- The waiting response joins the response queue when a place is free; its command leaves the command queue (R161). -/
def admitWaiting (a : Agent) : Agent :=
  match a.waiting with
  | none => a
  | some r =>
    if a.responses.length < Config.responsePlaces then
      { a with responses := a.responses ++ [r], retained := some r.response, waiting := none, queue := a.queue.tail }
    else a

/-- A response leaves the response queue, and the waiting response joins it at once (R161, R162). -/
def popResponse : State → State :=
  State.onAgent fun a => admitWaiting { a with responses := a.responses.tail }

end Sys2Proof.Machine
end

