-- ==== Sys2Proof/Machine/Operands.lean ====
section
/-! DEFINITION. The operand forms: bodies of the frames the part reads (R193), the arguments of every command with their length and range checks (R160, R166, R168 to R170, R197), and the layouts of what the part writes (R163 to R169, R194 to R196). -/

namespace Sys2Proof.Machine

/-! ### SAMPLE, SYNC and ACK bodies (R193) -/

/-- A SAMPLE frame is malformed (R26). A frame from node 255 is treated as malformed. -/
def malformedSample (node : Byte) (body : List Byte) : Bool :=
  let c := (octetAt body 3).toNat
  let k := (octetAt body 4).toNat
  decide (body.length < 5) || decide (c < 1) || decide (8 < c) || decide (k < 1) || decide (8 < k) ||
    decide (body.length ≠ 5 + 2 * k * c) || node == 255

/-- The SAMPLE frame that a well-formed body holds (R193). -/
def sampleFrameOf (node : Byte) (body : List Byte) : SampleFrame :=
  let c := (octetAt body 3).toNat
  let k := (octetAt body 4).toNat
  { node := node
    epoch := octetAt body 0
    first := BitVec.ofNat 16 (fieldAt body 1 2)
    channels := c
    scans := k
    values := (List.range (k * c)).map fun i => BitVec.ofNat 16 (fieldAt body (5 + 2 * i) 2) }

/-- A SYNC body is valid (R21): 5 octets, interval from 100 to 5000 ms. -/
def validSync (body : List Byte) : Bool :=
  body.length == 5 && decide (100 ≤ fieldAt body 3 2) && decide (fieldAt body 3 2 ≤ 5000)

/-! ### Argument lengths (R160 check 2, 9.5) -/

/-- The count argument of STREAM_LOAD and STREAM_REMOVE. -/
def countArg (args : List Byte) : Nat := (octetAt args 0).toNat

/-- The length a list of count items needs; a count outside 1 to 8 has none (R160). -/
def listLength (args : List Byte) (each : Nat) : Option Nat :=
  if 1 ≤ countArg args ∧ countArg args ≤ 8 then some (1 + each * countArg args) else none

/-- The argument length a command requires (R165 to R171). -/
def requiredLength (k : CommandCode) (args : List Byte) : Option Nat :=
  match k with
  | .statusRead => some 0
  | .countersRead => some 1
  | .planClear => some 0
  | .planCopy => some 0
  | .streamLoad => listLength args 4
  | .streamRemove => listLength args 2
  | .circuitLoad => some 30
  | .referenceLoad => some 9
  | .planRead => some 4
  | .planCommit => some 4
  | .sessionOpen => some 4
  | .sessionClose => some 0
  | .reportConfig => some 7
  | .reportFlush => some 0
  | .circuitRead => some 1
  | .referenceRead => some 1
  | .eventConfig => some 4
  | .meteringClear => some 0
  | .partReset => some 0

/-- The argument length is the length the command requires (R160 check 2). -/
def lengthOk (k : CommandCode) (args : List Byte) : Bool := requiredLength k args == some args.length

/-! ### Ranges (R197) -/

/-- The index of the first check that fails. -/
def firstFailing : List Bool → Option Nat
  | [] => none
  | true :: rest => (firstFailing rest).map (· + 1)
  | false :: _ => some 0

/-- A yes or no argument is 0 or 1 (R197). -/
def yesNoOk (b : Byte) : Bool := decide (b.toNat ≤ 1)

/-- An enumerated argument names one of its first n codes (R197). -/
def codeOk (b : Byte) (n : Nat) : Bool := decide (b.toNat < n)

/-- A value lies in a range, ends included. -/
def inRange (lo hi v : Nat) : Bool := decide (lo ≤ v) && decide (v ≤ hi)

/-- The largest quantum and floor limit, 2^40 (R39). -/
def quantumMax : Nat := 1099511627776

/-- The range checks the agent makes itself (R160 check 4): the number of the first argument out of range. Of a
PLAN_READ whose bank and section are both out of range, R166 does not say which is named: the bank is, index 0 (DESIGN
CHOICE, assumption log 26). R168 states this order for its own commands. -/
def agentRangeFailure (k : CommandCode) (args : List Byte) : Option Nat :=
  match k with
  | .countersRead => firstFailing [yesNoOk (octetAt args 0)]
  | .planRead => firstFailing [codeOk (octetAt args 0) 2, codeOk (octetAt args 1) 4]
  | .sessionOpen => firstFailing [inRange 1 65535 (fieldAt args 0 2)]
  | .reportConfig => firstFailing [inRange 1 600 (fieldAt args 0 2), inRange 1 65535 (fieldAt args 2 2),
      inRange 1 15 (fieldAt args 4 1), inRange 50 5000 (fieldAt args 5 2)]
  | .circuitRead => firstFailing [codeOk (octetAt args 0) 96]
  | .referenceRead => firstFailing [codeOk (octetAt args 0) 16]
  | .eventConfig => firstFailing [decide (fieldAt args 0 4 < 2 ^ 19)]
  | .statusRead => none
  | .planClear => none
  | .planCopy => none
  | .streamLoad => none
  | .streamRemove => none
  | .circuitLoad => none
  | .referenceLoad => none
  | .planCommit => none
  | .sessionClose => none
  | .reportFlush => none
  | .meteringClear => none
  | .partReset => none

/-! ### STREAM_LOAD and STREAM_REMOVE arguments (R45, R46, R166) -/

/-- The octets of the count items of a list argument, each of the given width. -/
def items (args : List Byte) (each : Nat) : List (List Byte) :=
  (List.range (countArg args)).map fun i => (args.drop (1 + each * i)).take each

/-- Node and channel lie in their ranges (R38, R46). -/
def keyOk (e : List Byte) : Bool := codeOk (octetAt e 0) 255 && codeOk (octetAt e 1) 8

/-- Role and index lie in their ranges; the index of an IGNORE entry is not examined (R45). -/
def targetOk (e : List Byte) : Bool :=
  match (octetAt e 2).toNat with
  | 0 => codeOk (octetAt e 3) 16
  | 1 => codeOk (octetAt e 3) 96
  | 2 => true
  | _ => false

/-- The target that a role and index in range name (R45, R197). -/
def targetOf (e : List Byte) : Target :=
  match (octetAt e 2).toNat with
  | 0 => .voltage (Fin.ofNat 16 (octetAt e 3).toNat)
  | 1 => .current (Fin.ofNat 96 (octetAt e 3).toNat)
  | _ => .ignore

/-- The key of a list item whose node and channel are in range. -/
def itemKey (e : List Byte) : Nat := streamKey (Fin.ofNat 255 (octetAt e 0).toNat) (Fin.ofNat 8 (octetAt e 1).toNat)

/-- The stream entry of a list item that passed its checks. -/
def streamEntryOf (e : List Byte) : StreamEntry :=
  ⟨Fin.ofNat 255 (octetAt e 0).toNat, Fin.ofNat 8 (octetAt e 1).toNat, targetOf e⟩

/-- Of two entries of one command with the same key, the position of the later: the first position whose key an earlier
one has (R45 check 2). -/
def firstRepeat : List Nat → Nat → List Nat → Option Nat
  | _, _, [] => none
  | seen, i, k :: ks => if k ∈ seen then some i else firstRepeat (k :: seen) (i + 1) ks

/-! ### CIRCUIT_LOAD and REFERENCE_LOAD arguments (R47, R48, R166) -/

/-- The number of the first field of CIRCUIT_LOAD out of range, 0 being the circuit index (R47, R166). -/
def circuitLoadFailure (args : List Byte) : Option Nat :=
  firstFailing
    [codeOk (octetAt args 0) 96, yesNoOk (octetAt args 1), true, codeOk (octetAt args 6) 16, codeOk (octetAt args 7) 2,
      true, true, inRange 1 quantumMax (fieldAt args 12 6), inRange 1 16 (octetAt args 18).toNat,
      decide ((octetAt args 19).toNat ∈ [1, 4, 8, 16]), codeOk (octetAt args 20) 3, yesNoOk (octetAt args 21),
      inRange 1 65535 (fieldAt args 22 2), inRange 1 quantumMax (fieldAt args 24 6)]

/-- A yes or no argument that is in range (R197). -/
def boolOf (b : Byte) : Bool := b == 1

/-- The circuit record that CIRCUIT_LOAD arguments in range hold (R47, R197). -/
def circuitRecordOf (args : List Byte) : CircuitRecord where
  enabled := boolOf (octetAt args 1)
  account := BitVec.ofNat 32 (fieldAt args 2 4)
  reference := Fin.ofNat 16 (octetAt args 6).toNat
  polarity := if octetAt args 7 = 0 then .normal else .inverted
  gain := BitVec.ofNat 16 (fieldAt args 8 2)
  offset := BitVec.ofNat 16 (fieldAt args 10 2)
  quantum := BitVec.ofNat 48 (fieldAt args 12 6)
  divisor := octetAt args 18
  acceleration := octetAt args 19
  select := if octetAt args 20 = 0 then .imp else if octetAt args 20 = 1 then .exp else .both
  floorEnable := boolOf (octetAt args 21)
  floorStep := BitVec.ofNat 16 (fieldAt args 22 2)
  floorLimit := BitVec.ofNat 48 (fieldAt args 24 6)

/-- The number of the first field of REFERENCE_LOAD out of range, 0 being the reference index; a band in the wrong order
is reported against its maximum (R48, R166). -/
def referenceLoadFailure (args : List Byte) : Option Nat :=
  firstFailing
    [codeOk (octetAt args 0) 16, yesNoOk (octetAt args 1), yesNoOk (octetAt args 2), true,
      inRange 8 4095 (fieldAt args 5 2),
      inRange 8 4095 (fieldAt args 7 2) && decide (fieldAt args 5 2 ≤ fieldAt args 7 2)]

/-- The reference record that REFERENCE_LOAD arguments in range hold (R48). -/
def refRecordOf (args : List Byte) : RefRecord where
  enabled := boolOf (octetAt args 1)
  censusEnable := boolOf (octetAt args 2)
  zeroOffset := BitVec.ofNat 16 (fieldAt args 3 2)
  bandMin := BitVec.ofNat 16 (fieldAt args 5 2)
  bandMax := BitVec.ofNat 16 (fieldAt args 7 2)

/-! ### PLAN_READ (R49, R166) -/

/-- The check of start and count for a section: the response's index is 2 for a failing start, 3 for a failing count. -/
def planReadFailure (section_ start count : Nat) : Option Nat :=
  let checks : Bool × Bool :=
    match section_ with
    | 0 => (decide (start = 0), decide (count = 1))
    | 1 => (inRange 0 255 start, inRange 1 32 count)
    | 2 => (inRange 0 95 start, inRange 1 8 count && decide (start + count ≤ 96))
    | _ => (inRange 0 15 start, inRange 1 16 count && decide (start + count ≤ 16))
  if !checks.1 then some 2 else if !checks.2 then some 3 else none

/-- The results of PLAN_READ (R166). -/
def planReadResults (b : Bank) (section_ start count : Nat) : List Byte :=
  let p := b.contents
  match section_ with
  | 0 => be 4 b.generation.toNat ++ be 4 b.check.toNat ++ be 2 p.streams.length
  | 1 =>
    let got := (p.streams.drop start).take count
    be 2 p.streams.length ++ be 1 got.length ++ got.flatMap streamOctets
  | 2 => be 1 start ++ be 1 count ++ ((p.circuits.drop start).take count).flatMap circuitOctets
  | _ => be 1 start ++ be 1 count ++ ((p.references.drop start).take count).flatMap refOctets

/-! ### Readouts (R164, R165, R169, R79, R103) -/

/-- The octets of a port's ten counters, in the order of R179. -/
def PortCounters.octets (k : PortCounters) : List Byte :=
  [k.received, k.runts, k.giants, k.checkErrors, k.abortedReceptions, k.forwardOverruns, k.transmitted,
    k.abortedTransmissions, k.linkDowns, k.breaks].flatMap fun w => be 4 w.toNat

/-- The 46 part-wide counters in the order of R179. -/
def counterOctets (s : State) : List Byte :=
  let e := s.engine.counters
  let q := s.session
  let a := s.agent
  s.links.field.counters.octets ++ s.links.head.counters.octets ++
    ([s.sync.taken, s.sync.ignored, e.notMeteredPart, e.notMeteredMalformed, e.notMeteredNoSync, e.notMeteredEpoch,
      e.overruns, e.framesMetered, e.unmapped, s.plan.passes, s.builder.built, s.builder.emptyBuilt, s.builder.dropped,
      q.acksTaken, q.acksStale, q.acksStray, q.retransmitTimeouts, q.retransmissions, q.acknowledged, q.restored,
      a.malformed, a.overruns, a.duplicates, a.repeated, a.broadcastsIgnored, s.events.lostCounter].flatMap
      fun w => be 4 w.toNat)

/-- The scrubber's pass state as a code (R197). -/
def passCode : PassState → Byte
  | .stopped => 0
  | .waiting _ => 1
  | .running _ _ => 2

/-- The results of STATUS_READ (R164). -/
def statusResults (s : State) : List Byte :=
  let p := s.part
  let q := s.session
  [partCode p.state, causeCode p.cause, BitVec.ofNat 8 p.tap.toNat, selfCheckCode p.selfCheckPassed] ++ be 4 p.ms.toNat ++
    [portStateCode s.links.field.state, portStateCode s.links.head.state] ++
    [syncCode s.sync.state, s.sync.epoch] ++ be 2 s.sync.scan.toNat ++ be 2 (s.sync.interval.getD 0) ++
    be 4 s.plan.active.generation.toNat ++ be 4 s.plan.active.check.toNat ++ [passCode s.plan.pass] ++
    be 1 s.engine.queue.length ++ [yesNo s.engine.metering.isSome] ++
    [sessionCode q.state] ++ be 2 q.idValue.toNat ++ be 2 q.next.toNat ++ be 2 q.base.toNat ++
    be 2 (q.highest.getD 0).toNat ++ [yesNo q.highest.isSome] ++ be 1 q.queue.length ++ be 1 q.timeouts ++
    [holdCode q.cause] ++ be 1 s.builder.closings.length ++
    be 1 s.agent.queue.length ++ be 1 s.agent.responses.length ++ be 1 s.events.queue.length ++ be 2 s.events.lost

/-- The octets of one direction in a CIRCUIT_READ result (R169). -/
def DirState.octets (d : DirState) : List Byte :=
  be 6 d.accumulator ++ be 1 d.partialCount ++ be 3 d.pending ++ be 3 d.inFlight ++
    [yesNo d.blocked, yesNo d.test, yesNo d.holdover] ++ be 4 d.suppressed.toNat ++ be 6 d.satLoss ++
    be 6 d.floorDiscarded

/-- The scan number of a parked sample, 0 when there is none (R103, R197). -/
def parkedScan (p : Option Parked) : Nat := (p.map fun x => x.scan.toNat).getD 0

/-- The results of CIRCUIT_READ (R103, R169). -/
def circuitReadResults (c : Fin 96) (s : State) : List Byte :=
  let r := circuitRecord s.plan.active.contents c
  let x := s.circ c
  [BitVec.ofNat 8 c.val, yesNo r.enabled] ++ be 4 r.account.toNat ++ [BitVec.ofNat 8 r.reference.val] ++
    x.imp.octets ++ x.exp.octets ++ be 6 x.floorAcc ++ [floorCode x.floor] ++ be 1 x.park.length ++
    be 2 (parkedScan x.park.head?) ++ be 2 (parkedScan x.park.getLast?) ++
    ([x.paired, x.missed, x.unqualified, x.flushed, x.duplicate].flatMap fun w => be 4 w.toNat)

/-- The results of REFERENCE_READ (R79, R169): ring and census as they stand. Where a disturbance cleared the stored enabled
field of a reference, they are kept and read as they are, though R65 gives a disabled reference an empty ring: the model's
choice (assumption log 23). -/
def referenceReadResults (r : Fin 16) (s : State) : List Byte :=
  let x := s.ref r
  let k := x.census
  let newest := x.ring.getLast?
  [BitVec.ofNat 8 r.val, censusCode k.state] ++ be 1 x.ring.length ++
    be 2 ((x.ring.head?.map fun y => y.scan.toNat).getD 0) ++ be 2 ((newest.map fun y => y.scan.toNat).getD 0) ++
    be 2 ((newest.map fun y => y.value.toNat).getD 0) ++ be 2 (k.lastCrossing.getD 0).toNat ++
    [yesNo k.lastCrossing.isSome] ++ be 1 k.periods ++ be 1 k.shorts ++ be 2 k.lastPeriod ++ be 3 k.lastShort ++
    be 3 k.lastLong ++ ([x.stored, x.duplicates, x.late, x.gaps].flatMap fun w => be 4 w.toNat)

/-! ### Originated bodies (R194, R195, R196) -/

/-- A RESPONSE body (R194). -/
def responseBody (r : Response) : List Byte := [r.tag, r.code, statusCode r.status] ++ r.results

/-- The flags that the first octet of an entry adds to its kind (R195). -/
def entryFlags (exports test holdover : Bool) : Nat :=
  (if exports then 4 else 0) + (if test then 2 else 0) + (if holdover then 1 else 0)

/-- The octets of an entry (R195). The octet of the two partial counts holds them while each is at most 15, as it is in
every plan that validates; a count above 15, which a storage disturbance of the divisor can bring, makes the number
IMPORT * 16 + EXPORT run over, and its value modulo 256 is written, EXPORT carrying into IMPORT (DESIGN CHOICE,
assumption log 17). -/
def entryOctets : Entry → List Byte
  | .units u account =>
    [BitVec.ofNat 8 (0x10 + entryFlags (u.direction == .exp) u.test u.holdover), BitVec.ofNat 8 u.circuit.val] ++
      be 2 u.units ++ be 4 account.toNat
  | .close k =>
    [BitVec.ofNat 8 (0x20 + entryFlags false k.test k.holdover), BitVec.ofNat 8 k.circuit.val] ++ be 4 k.account.toNat ++
      be 3 k.impUnits ++ be 3 k.expUnits ++ be 1 (k.impPartial * 16 + k.expPartial) ++ be 6 k.impResidue ++
      be 6 k.expResidue ++ be 6 k.quantum.toNat ++ [k.acceleration]

/-- A TALLY body (R195). -/
def tallyBody (r : Record) (retransmit : Bool) : List Byte :=
  [yesNo retransmit] ++ be 2 r.session.toNat ++ be 2 r.sequence.toNat ++ [r.epoch] ++ be 2 r.stamp.toNat ++
    [syncCode r.sync] ++ be 1 r.entries.length ++ r.entries.flatMap entryOctets

/-- The octets of an event record (R196). -/
def eventOctets (r : EventRecord) : List Byte :=
  be 1 (eventCode r.kind) ++ be 2 r.subject.toNat ++ be 1 r.repeats ++ be 4 r.stamp.toNat ++ be 4 r.value.toNat

/-- An EVENT body: the events-lost count, the number of records and the records (R176, R196). -/
def eventBody (lost : Nat) (rs : List EventRecord) : List Byte := be 2 lost ++ be 1 rs.length ++ rs.flatMap eventOctets

/-- The tap address as an address octet (R14). -/
def tapOctet (s : State) : Byte := s.part.tap.setWidth 8

end Sys2Proof.Machine
end

