-- ==== Sys2Proof/Machine/Arrival.lean ====
section
/-! DEFINITION. What a good frame does where it arrives: forwarding (R8 to R12), SAMPLE acceptance (R26 to R28), SYNC (R21 to R24), ACK (R143 to R146) and COMMAND frames (R156 to R158). -/

namespace Sys2Proof.Machine

/-! ### SAMPLE acceptance (R27, R28) -/

/-- An admitted frame meets the metering queue (R28). -/
def admitSample (f : SampleFrame) (s : State) : State :=
  if s.engine.queue.length < Config.meteringPlaces then s.onEngine fun e => { e with queue := e.queue ++ [f] }
  else post .meteringOverrun 0 (f.node.setWidth 32)
    (s.onScanCounters fun k => { k with overruns := k.overruns + 1 })

/-- A SAMPLE frame offered for metering: the four conditions of R27 in order, then the queue. -/
def acceptSample (node : Byte) (body : List Byte) (s : State) : State :=
  if s.part.state ≠ .metering then s.onScanCounters fun k => { k with notMeteredPart := k.notMeteredPart + 1 }
  else if malformedSample node body then
    s.onScanCounters fun k => { k with notMeteredMalformed := k.notMeteredMalformed + 1 }
  else if s.sync.state ≠ .locked ∧ s.sync.state ≠ .holdover then
    s.onScanCounters fun k => { k with notMeteredNoSync := k.notMeteredNoSync + 1 }
  else if (sampleFrameOf node body).epoch ≠ s.sync.epoch then
    s.onScanCounters fun k => { k with notMeteredEpoch := k.notMeteredEpoch + 1 }
  else admitSample (sampleFrameOf node body) s

/-! ### SYNC (R21, R22, R24) -/

/-- The epoch check of R24, made before the epoch is replaced: EPOCH_CHANGED and a flush claim. -/
def epochCheck (epoch : Byte) (s : State) : State :=
  if s.sync.state ≠ .none ∧ epoch ≠ s.sync.epoch then
    placeClaim .epochFlush (post .epochChanged (epoch.setWidth 16) (s.sync.epoch.setWidth 32) s)
  else s

/-- Taking a valid SYNC frame (R22). SYNC_LOCKED follows EPOCH_CHANGED. -/
def takeSync (epoch : Byte) (scan : Half) (interval : Nat) (s : State) : State :=
  let locked := (epochCheck epoch s).onSync fun y =>
    { y with state := .locked, epoch := epoch, scan := scan, interval := some interval,
             timer := some (Config.lockedIntervals * interval), taken := y.taken + 1 }
  if s.sync.state = .locked then locked else post .syncLocked 0 (epoch.setWidth 32) locked

/-- A SYNC frame handed to the sync monitor (R21). -/
def syncFrame (body : List Byte) (s : State) : State :=
  if validSync body then
    takeSync (octetAt body 0) (BitVec.ofNat 16 (fieldAt body 1 2)) (fieldAt body 3 2) s
  else s.onSync fun y => { y with ignored := y.ignored + 1 }

/-! ### ACK (R143, R144, R146) -/

/-- The UNITS entries of records, in the order of the records and of their entries. -/
def unitsOf (rs : List Record) : List UnitsRef :=
  rs.flatMap fun r => r.entries.filterMap fun e =>
    match e with
    | .units u _ => some u
    | .close _ => none

/-- The closing entries that records carry: the entries bound to their sequences (R133). -/
def carriedBy (rs : List Record) (k : Closing) : Bool :=
  match k.bound with
  | none => false
  | some q => rs.any fun r => r.sequence == q

/-- Notes that the record of the TALLY frame in transmission has left the report queue (R142, R153). -/
def orphanTx (rs : List Record) : State → State :=
  State.onLinks fun l => { l with headTx := l.headTx.map fun tx =>
    match tx.source with
    | .tally (some q) b => if rs.any fun r => r.sequence == q then { tx with source := .tally none b } else tx
    | _ => tx }

/-- Records leave the head of the report queue acknowledged: their closing entries are freed and one ack release claim
is placed for their UNITS entries (R144). -/
def retire (n : Nat) (s : State) : State :=
  let gone := s.session.queue.take n
  let s1 := s.onSession fun q =>
    { q with queue := q.queue.drop n, acknowledged := q.acknowledged + BitVec.ofNat 32 gone.length }
  let s2 := (orphanTx gone s1).onBuilder fun b => { b with closings := b.closings.filter fun k => !carriedBy gone k }
  if unitsOf gone = [] then s2 else placeClaim (.ackRelease (unitsOf gone)) s2

/-- The timer and the count after an ACK that retired at least one record (R146). -/
def ackTimer (q : Session) : Session :=
  { q with
    timeouts := 0
    timer := if q.state = .open_ then (if q.queue.any fun r => r.state == .sent then some q.timeout else none)
      else q.timer }

/-- A valid ACK (R144 to R146): it retires n records, adjusts count and timer, and ends a HOLD. -/
def takeAck (n : Nat) (s : State) : State :=
  let s1 := retire n (s.onSession fun q => { q with acksTaken := q.acksTaken + 1 })
  let s2 := if n = 0 then s1 else s1.onSession ackTimer
  if s.session.state = .hold then resumeSession s2 else s2

/-- An ACK handed to the session controller: the checks of R143 in order. -/
def ackFrame (body : List Byte) (s : State) : State :=
  let stray := s.onSession fun q => { q with acksStray := q.acksStray + 1 }
  let stale := s.onSession fun q => { q with acksStale := q.acksStale + 1 }
  if body.length ≠ 4 then stray
  else if !sessionLive s then stale
  else if s.session.id ≠ some (BitVec.ofNat 16 (fieldAt body 0 2)) then stale
  else
    match s.session.highest with
    | none => stray
    | some h =>
      let n := s.session.placeFrom (BitVec.ofNat 16 (fieldAt body 2 2))
      if n ≤ s.session.placeFrom h then takeAck n s else stray

/-! ### COMMAND (R156, R157, R158) -/

/-- A command joins the queue when it holds fewer than four; otherwise it is an overrun (R156). -/
def queueCommand (c : Command) (s : State) : State :=
  if s.agent.queue.length < Config.commandPlaces then s.onAgent fun a => { a with queue := a.queue ++ [c] }
  else s.onAgent fun a => { a with overruns := a.overruns + 1 }

/-- A queued command that is answered, not a broadcast, has this tag and code (R157, R158; assumption log 7). -/
def queuedMatch (tag code : Byte) (c : Command) : Bool := c.tag == tag && c.code == code && c.broadcast.isNone

/-- A command addressed to this tap: duplicate tests, then capacity (R156, R157). -/
def addressedCommand (tag code : Byte) (args : List Byte) (s : State) : State :=
  let discard := s.onAgent fun a => { a with duplicates := a.duplicates + 1 }
  if s.agent.queue.any (queuedMatch tag code) then discard
  else
    match s.agent.retained with
    | none => queueCommand ⟨tag, code, args, none⟩ s
    | some r =>
      if r.tag = tag ∧ r.code = code then
        if s.agent.responses.any (fun x => x.original) then discard
        else if s.agent.responses.length < Config.responsePlaces then
          s.onAgent fun a => { a with responses := a.responses ++ [⟨r, false, false⟩], repeated := a.repeated + 1 }
        else s.onAgent fun a => { a with overruns := a.overruns + 1 }
      else queueCommand ⟨tag, code, args, none⟩ s

/-- A broadcast: REPORT_FLUSH and PART_RESET join the queue in IDLE, METERING and FAULTED; every other is ignored and
counted (R158). -/
def broadcastCommand (tag code : Byte) (args : List Byte) (number : Nat) (fate : CopyFate) (s : State) : State :=
  if s.part.state ≠ .defect ∧ (code = commandOctet .reportFlush ∨ code = commandOctet .partReset) then
    queueCommand ⟨tag, code, args, some (number, fate)⟩ s
  else s.onAgent fun a => { a with broadcastsIgnored := a.broadcastsIgnored + 1 }

/-- A COMMAND frame handed to the command agent (R156). -/
def commandFrame (broadcast : Option (Nat × CopyFate)) (body : List Byte) (s : State) : State :=
  if body.length < 2 then s.onAgent fun a => { a with malformed := a.malformed + 1 }
  else
    match broadcast with
    | some (n, fate) => broadcastCommand (octetAt body 0) (octetAt body 1) (body.drop 2) n fate s
    | none => addressedCommand (octetAt body 0) (octetAt body 1) (body.drop 2) s

/-! ### Where a good frame goes (R8, R9, R10) -/

/-- A good frame from the Field port (R8, R10): offered upstream, and a SAMPLE offered for metering. -/
def fieldFrame (f : Frame) (s : State) : State :=
  let s1 := offerUp f s
  if takesPart s ∧ frameKind f = kindSample then acceptSample (frameAddress f) (frameBody f) s1 else s1

/-- A broadcast COMMAND is forwarded and handed over; the forwarded copy and the command share a number (R9, R171). -/
def broadcastFrame (f : Frame) (s : State) : State :=
  let n := s.agent.nextCopy
  let fate : CopyFate := if s.links.down.length < Config.forwardPlaces then .buffered else .lost
  commandFrame (some (n, fate)) (frameBody f)
    ((offerDown ⟨f, some n⟩ s).onAgent fun a => { a with nextCopy := a.nextCopy + 1 })

/-- A good frame from the Head port: the table of R9, or in PASSIVE forwarding alone (R10). -/
def headFrame (f : Frame) (s : State) : State :=
  if !takesPart s then offerDown ⟨f, none⟩ s
  else if frameKind f = kindSync then syncFrame (frameBody f) (offerDown ⟨f, none⟩ s)
  else if frameKind f = kindCommand then
    if frameAddress f = tapOctet s then commandFrame none (frameBody f) s
    else if (frameAddress f).toNat = Config.broadcastAddress then broadcastFrame f s
    else offerDown ⟨f, none⟩ s
  else if frameKind f = kindAck ∧ frameAddress f = tapOctet s then ackFrame (frameBody f) s
  else offerDown ⟨f, none⟩ s

/-- A good frame goes where its port sends it (R8, R9). -/
def goodArrival : PortId → Frame → State → State
  | .field => fieldFrame
  | .head => headFrame

end Sys2Proof.Machine
end

