-- ==== Sys2Proof/Machine/Claims.lean ====
section
/-! DEFINITION. The meanings of the claims the metering engine takes at a frame boundary (R35): epoch flush (R25), commit boundary (R53 to R58), builder take (R126 to R130), ack release (R145), session restore (R151), the two reads (R103, R79) and metering clear (R105). -/

namespace Sys2Proof.Machine

/-! ### Epoch flush (R25, R68) -/

/-- The state a census restarts into, by the reference's record (R68). -/
def restartState (r : RefRecord) : CensusState :=
  if r.enabled then (if r.censusEnable then .qualifying else .unchecked) else .idle

/-- A census restart under a record (R68). -/
def restartCensus (r : RefRecord) : Census := .restarted (restartState r)

/-- A park queue is emptied, each sample counted as flushed (R25, R58). -/
def flushPark (x : CircuitState) : CircuitState :=
  { x with park := [], flushed := x.flushed + BitVec.ofNat 32 x.park.length }

/-- Every ring and park queue is emptied and every census restarts by its record in the active bank (R25, R68, R81). Where
a disturbance in DEFECT enabled a reference, its census so leaves IDLE, although R83 says that every census of such a part
stays IDLE: the model follows R68 (assumption log 23). -/
def flushAll (s : State) : State :=
  (s.onCircuits fun l => l.map flushPark).onRefs fun l =>
    l.mapIdx fun i q => { q with ring := [], census := restartCensus (refRecord s.plan.active.contents (Fin.ofNat 16 i)) }

/-- EPOCH_FLUSH (R25): the engine takes an epoch flush claim. -/
def execEpochFlush (s : State) : Result :=
  match nextClaim s with
  | some .epochFlush => .next (flushAll (dropClaim s))
  | _ => .next s

/-! ### Commit boundary (R53 to R58) -/

/-- The outcome of the three refusals of R54, in their order: the status and results of the first that applies. -/
def commitRefusal (set : List (Fin 96)) (s : State) : Option (Status × List Byte) :=
  match set.find? fun c => decide (0 < (s.circ c).imp.inFlight ∨ 0 < (s.circ c).exp.inFlight) with
  | some c => some (.circuitInFlight, be 1 c.val)
  | none =>
    match set.find? fun c => s.builder.closings.any fun k => k.circuit == c with
    | some c => some (.closingBusy, be 1 c.val)
    | none =>
      if Config.closingPlaces - s.builder.closings.length < set.length then
        some (.closingFull, be 1 set.length ++ be 1 (Config.closingPlaces - s.builder.closings.length))
      else none

/-- The closing entry of a circuit, in state WAITING (R55). -/
def closingOf (r : CircuitRecord) (c : Fin 96) (x : CircuitState) : Closing where
  circuit := c
  account := r.account
  impUnits := x.imp.pending
  expUnits := x.exp.pending
  impPartial := x.imp.partialCount
  expPartial := x.exp.partialCount
  impResidue := x.imp.accumulator
  expResidue := x.exp.accumulator
  quantum := r.quantum
  acceleration := r.acceleration
  test := x.imp.test || x.exp.test
  holdover := x.imp.holdover || x.exp.holdover
  bound := none

/-- CIRCUIT_UNBLOCKED for a direction (R100, R178). -/
def postUnblocked (c : Fin 96) (d : Direction) : State → State :=
  post .circuitUnblocked (BitVec.ofNat 16 c.val) (directionCode d)

/-- CIRCUIT_UNBLOCKED for each direction that was blocked, IMPORT before EXPORT (R55, R105; assumption log 8). -/
def postUnblockedBoth (c : Fin 96) (x : CircuitState) (s : State) : State :=
  let s1 := if x.imp.blocked then postUnblocked c .imp s else s
  if x.exp.blocked then postUnblocked c .exp s1 else s1

/-- One circuit is closed (R55): its closing entry is made, its running state cleared, its blocked directions reported. -/
def closeCircuit (active : PlanContents) (s : State) (c : Fin 96) : State :=
  let x := s.circ c
  postUnblockedBoth c x
    ((s.onBuilder fun b => { b with closings := b.closings ++ [closingOf (circuitRecord active c) c x] }).onCirc c
      fun _ => .cleared)

/-- The effect of a commit on one reference (R57). -/
def commitRef (old new : PlanContents) (i : Fin 16) (q : RefState) : RefState :=
  let a := refRecord old i
  let b := refRecord new i
  if !b.enabled then { q with ring := [], census := .restarted .idle }
  else if !a.enabled ∨ voltageKey old i ≠ voltageKey new i then { q with ring := [], census := restartCensus b }
  else if a.zeroOffset ≠ b.zeroOffset ∨ a.bandMin ≠ b.bandMin ∨ a.bandMax ≠ b.bandMax ∨ a.censusEnable ≠ b.censusEnable then
    { q with census := restartCensus b }
  else q

/-- A partial overflow count not less than the new divisor becomes the divisor minus 1 (R58). Under a divisor of 0, which
only a copy of a disturbed bank brings, the spec states no count: a free value (assumption log 4). -/
def lowerPartial (divisor : Nat) (x : DirState) : DirState :=
  { x with partialCount :=
      if divisor = 0 then (Config.partialAtDivisorZero x.partialCount).val
      else if divisor ≤ x.partialCount then divisor - 1 else x.partialCount }

/-- A blocked direction that the new select leaves out stops being blocked (R58). -/
def unblockUnselected (sel : Select) (d : Direction) (x : DirState) : DirState :=
  { x with blocked := x.blocked && selects sel d }

/-- The running state of a circuit kept enabled with its account, after the adjustments of R58. A floor enable that a
disturbance turned to no is compared as it is stored (R64): the floor accumulator and state are then kept, by the model's
choice (assumption log 23). -/
def adjustCircuit (old new : PlanContents) (c : Fin 96) (x : CircuitState) : CircuitState :=
  let a := circuitRecord old c
  let b := circuitRecord new c
  let x1 := if currentKey old c ≠ currentKey new c ∨ a.reference ≠ b.reference then flushPark x else x
  let x2 := { x1 with
    imp := unblockUnselected b.select .imp (lowerPartial b.divisor.toNat x1.imp)
    exp := unblockUnselected b.select .exp (lowerPartial b.divisor.toNat x1.exp) }
  if a.floorEnable && !b.floorEnable then { x2 with floor := .active, floorAcc := 0 } else x2

/-- The circuits R58 adjusts: enabled in both plans, as stored (R64), with the same account. -/
def keptCircuit (old new : PlanContents) (c : Fin 96) : Bool :=
  (circuitRecord old c).enabled && (circuitRecord new c).enabled &&
    (circuitRecord old c).account == (circuitRecord new c).account

/-- The circuits that a commit newly enables: disabled in the previous bank, as stored (R64), and enabled in the new one. -/
def newlyEnabled (old new : PlanContents) (c : Fin 96) : Bool :=
  !(circuitRecord old c).enabled && (circuitRecord new c).enabled

/-- The floor values of a circuit are cleared: accumulator 0, state ACTIVE, totals 0 (R116). -/
def clearFloor (x : CircuitState) : CircuitState :=
  { x with imp := { x.imp with floorDiscarded := 0 }, exp := { x.exp with floorDiscarded := 0 }, floorAcc := 0,
           floor := .active }

/-- The effect of a commit on one circuit it does not close (R58), CIRCUIT_UNBLOCKED posted for each direction its new
select leaves out, IMPORT before EXPORT (assumption log 8). A newly enabled circuit holds the cleared floor values (R116).
That it goes on with the rest of its running state, where a disturbance had cleared its stored enabled field, is the model's
choice (assumption log 23). -/
def commitCircuit (old new : PlanContents) (s : State) (c : Fin 96) : State :=
  if keptCircuit old new c then
    let x := s.circ c
    let sel := (circuitRecord new c).select
    let s1 := s.onCirc c (adjustCircuit old new c)
    let s2 := if x.imp.blocked && !selects sel .imp then postUnblocked c .imp s1 else s1
    if x.exp.blocked && !selects sel .exp then postUnblocked c .exp s2 else s2
  else if newlyEnabled old new c then s.onCirc c clearFloor
  else s

/-- The banks swap and the new active header is written (R56 steps 1 and 2). -/
def swapBanks (check : Word) (p : PlanStore) : PlanStore :=
  { p with active := { contents := p.shadow.contents, generation := p.active.generation + 1, check := check },
           shadow := p.active }

/-- The part state and the scrubber after a commit (R56 steps 5 and 6, R60, R62). -/
def commitPartState (new : PlanContents) (s : State) : State :=
  if anyEnabled new then
    (s.onPart fun p => { p with state := .metering }).onPlan fun p => { p with pass := .running 0 crc32Init }
  else (s.onPart fun p => { p with state := .idle }).onPlan fun p => { p with pass := .stopped }

/-- A commit without refusal (R55 to R58): closings, swap, references, circuits, scrubber and part state,
PLAN_COMMITTED, and the response. R58 gives no order of its circuits: the model takes them ascending, and so posts
CIRCUIT_UNBLOCKED in that order (assumption log 8). -/
def commitPlan (check : Word) (s : State) : State :=
  let old := s.plan.active.contents
  let new := s.plan.shadow.contents
  let s1 := (closingSet old new).foldl (closeCircuit old) s
  let s2 := s1.onPlan (swapBanks check)
  let s3 := s2.onRefs fun l => l.mapIdx fun i q => commitRef old new (Fin.ofNat 16 i) q
  let s4 := allCircuits.foldl (commitCircuit old new) s3
  let s5 := post .planCommitted 0 check (commitPartState new s4)
  completeHeld .commit .ok (be 4 s5.plan.active.generation.toNat ++ be 4 check.toNat) s5

/-- The commit boundary claim is taken (R53, R54). -/
def takeCommit (check : Word) (s : State) : State :=
  match commitRefusal (closingSet s.plan.active.contents s.plan.shadow.contents) s with
  | some (st, results) => completeHeld .commit st results s
  | none => commitPlan check s

/-- COMMIT_BOUNDARY (R53): the engine takes the commit boundary claim. -/
def execCommitBoundary (s : State) : Result :=
  match nextClaim s with
  | some (.commitBoundary check) => .next (takeCommit check (dropClaim s))
  | _ => .next s

/-! ### Builder take (R118, R119, R126 to R130) -/

/-- A run in composition: the circuit table, the entries placed and the last circuit that gave a UNITS entry. -/
structure Run where
  circuits : List CircuitState
  entries : List Entry
  last : Option (Fin 96)
  deriving DecidableEq, Repr

/-- The UNITS entry of a direction: its units, flags and account (R119). -/
def unitsEntry (r : CircuitRecord) (c : Fin 96) (d : Direction) (x : DirState) : Entry :=
  .units ⟨c, d, min x.pending Config.entryUnitsMax, x.test, x.holdover⟩ r.account

/-- Units move from pending to in-flight and the taints clear (R99, R119). -/
def takeUnits (x : DirState) : DirState :=
  { x with pending := x.pending - min x.pending Config.entryUnitsMax,
           inFlight := x.inFlight + min x.pending Config.entryUnitsMax, test := false, holdover := false }

/-- The visit of one direction (R128): with pending units and a free place, a UNITS entry is placed. -/
def visitDir (plan : PlanContents) (c : Fin 96) (d : Direction) (run : Run) : Run :=
  let x := run.circuits.getD c.val .cleared
  if 0 < (x.dir d).pending ∧ run.entries.length < Config.recordPlaces then
    { circuits := run.circuits.set c.val (x.onDir d takeUnits)
      entries := run.entries ++ [unitsEntry (circuitRecord plan c) c d (x.dir d)]
      last := some c }
  else run

/-- The visit of one circuit: IMPORT, then EXPORT (R128). -/
def visitCircuit (plan : PlanContents) (run : Run) (c : Fin 96) : Run :=
  visitDir plan c .exp (visitDir plan c .imp run)

/-- The circuits in visiting order: from the cursor, wrapping from 95 to 0 (R128). -/
def visitOrder (cursor : Fin 96) : List (Fin 96) := allCircuits.map fun i => cursor + i

/-- The whole visit, after the CLOSE entries (R127, R128). -/
def visitAll (s : State) : Run :=
  (visitOrder s.builder.cursor).foldl (visitCircuit s.plan.active.contents)
    ⟨s.circuits, (s.builder.closings.filter Closing.isWaiting).map Entry.close, none⟩

/-- The record a run builds (R118). -/
def recordOf (entries : List Entry) (s : State) : Record where
  session := s.session.idValue
  sequence := s.session.next
  epoch := s.sync.epoch
  stamp := s.engine.lastScan
  sync := s.sync.state
  entries := entries
  state := .unsent

/-- The record joins the tail of the report queue and the next sequence advances (R118, R121). -/
def appendRecord (entries : List Entry) (s : State) : State :=
  s.onSession fun q => { q with queue := q.queue ++ [recordOf entries s], next := q.next + 1 }

/-- The results of a REPORT_FLUSH held for the run (R131, R168). -/
def flushResults (built : Option (Half × Nat)) : List Byte :=
  match built with
  | none => [0] ++ be 2 0 ++ be 1 0
  | some (q, n) => [1] ++ be 2 q.toNat ++ be 1 n

/-- The REPORT_FLUSH held for the run completes (R131). -/
def completeFlush (built : Option (Half × Nat)) : State → State := completeHeld .flush .ok (flushResults built)

/-- A WAITING closing entry placed in the record becomes SENT, bound to its sequence (R127). -/
def bindClosing (seq : Half) (k : Closing) : Closing := if k.isWaiting then { k with bound := some seq } else k

/-- A run that placed entries (R127 to R130): the record is built, its closings are bound, the cursor moves. -/
def buildFull (run : Run) (s : State) : State :=
  let seq := s.session.next
  let s1 := appendRecord run.entries (s.onCircuits fun _ => run.circuits)
  let s2 := s1.onBuilder fun b =>
    { b with closings := b.closings.map (bindClosing seq), built := b.built + 1, idle := 0,
             cursor := match run.last with
               | none => b.cursor
               | some c => c + 1 }
  completeFlush (some (seq, run.entries.length)) s2

/-- An empty record (R130). -/
def buildEmpty (s : State) : State :=
  let s1 := (appendRecord [] s).onBuilder fun b =>
    { b with built := b.built + 1, emptyBuilt := b.emptyBuilt + 1, idle := 0 }
  completeFlush (some (s.session.next, 0)) s1

/-- A run that found nothing decides by its triggers (R130). -/
def buildNothing (t : Triggers) (s : State) : State :=
  if t.flush then buildEmpty s
  else if t.interval then
    if s.builder.idle + 1 = Config.heartbeatIntervals then buildEmpty s
    else s.onBuilder fun b => { b with idle := b.idle + 1 }
  else s

/-- The run of a builder take (R126): abandoned, or composed. -/
def runBuilder (t : Triggers) (s : State) : State :=
  if builderAccepts s then
    let run := visitAll s
    if run.entries = [] then buildNothing t s else buildFull run s
  else completeFlush none (s.onBuilder fun b => { b with dropped := b.dropped + 1 })

/-- BUILDER_TAKE (R126): the engine takes a builder take claim; the run stops being waiting. -/
def execBuilderTake (s : State) : Result :=
  match nextClaim s with
  | some .builderTake =>
    .next (runBuilder (s.builder.waiting.getD ⟨false, false, false⟩)
      ((dropClaim s).onBuilder fun b => { b with waiting := none }))
  | _ => .next s

/-! ### Ack release and session restore (R145, R151) -/

/-- A blocked direction stops being blocked when its owed count falls below the cap (R100). -/
def unblockTest (c : Fin 96) (d : Direction) (s : State) : State :=
  let x := (s.circ c).dir d
  if x.blocked ∧ x.owed < Config.owedCap then
    postUnblocked c d (s.onDir c d fun y => { y with blocked := false })
  else s

/-- In-flight units named by an ack release claim are released (R145). -/
def lowerInFlight (s : State) (u : UnitsRef) : State :=
  s.onDir u.circuit u.direction fun x => { x with inFlight := x.inFlight - u.units }

/-- Taking an ack release claim (R145): every count is lowered, then each direction lowered is tested. R100 and R145 give
no order of the tests: the model makes them, and posts CIRCUIT_UNBLOCKED, in the order of the claim's UNITS entries, so
that EXPORT of a circuit can come before its IMPORT (assumption log 8). -/
def releaseUnits (us : List UnitsRef) (s : State) : State :=
  us.foldl (fun t u => unblockTest u.circuit u.direction t) (us.foldl lowerInFlight s)

/-- ACK_RELEASE (R145): the engine takes an ack release claim. -/
def execAckRelease (s : State) : Result :=
  match nextClaim s with
  | some (.ackRelease us) => .next (releaseUnits us (dropClaim s))
  | _ => .next s

/-- Units of one UNITS entry return from in-flight to pending, with the taints it carried (R99, R151). -/
def restoreUnits (s : State) (u : UnitsRef) : State :=
  s.onDir u.circuit u.direction fun x =>
    { x with inFlight := x.inFlight - u.units, pending := x.pending + u.units, test := x.test || u.test,
             holdover := x.holdover || u.holdover }

/-- The SESSION_CLOSE held for its restore claim completes (R150). -/
def completeClose (s : State) : State :=
  match s.agent.held with
  | some (.sessionClose n m) => complete .ok (be 1 n ++ be 1 m) s
  | _ => s

/-- SESSION_RESTORE (R151): the engine takes a session restore claim. -/
def execSessionRestore (s : State) : Result :=
  match nextClaim s with
  | some (.sessionRestore us) => .next (completeClose (us.foldl restoreUnits (dropClaim s)))
  | _ => .next s

/-! ### Reads (R79, R103) and METERING_CLEAR (R105) -/

/-- CIRCUIT_READ_CLAIM (R103): the circuit's values at this boundary complete CIRCUIT_READ. -/
def execCircuitReadClaim (s : State) : Result :=
  match nextClaim s with
  | some (.circuitRead c) => .next (completeHeld (.circuitRead c) .ok (circuitReadResults c s) (dropClaim s))
  | _ => .next s

/-- REFERENCE_READ_CLAIM (R79): the reference's values at this boundary complete REFERENCE_READ. -/
def execReferenceReadClaim (s : State) : Result :=
  match nextClaim s with
  | some (.referenceRead r) => .next (completeHeld (.referenceRead r) .ok (referenceReadResults r s) (dropClaim s))
  | _ => .next s

/-- The units METERING_CLEAR discards in one direction: pending units of the 96 circuits and units of the closing
entries (R105, R170). -/
def discardTotal (d : Direction) (s : State) : Nat :=
  (allCircuits.map fun c => ((s.circ c).dir d).pending).sum +
    (s.builder.closings.map fun k => match d with
      | .imp => k.impUnits
      | .exp => k.expUnits).sum

/-- One circuit returns to its cleared state, its blocked directions reported (R105). -/
def clearCircuit (s : State) (c : Fin 96) : State :=
  postUnblockedBoth c (s.circ c) (s.onCirc c fun _ => .cleared)

/-- Taking the metering clear claim (R105). -/
def clearMetering (s : State) : State :=
  let s1 := (allCircuits.foldl clearCircuit s).onBuilder fun b => { b with closings := [] }
  completeHeld .meteringClear .ok (be 4 (discardTotal .imp s) ++ be 4 (discardTotal .exp s)) s1

/-- METERING_CLEAR_CLAIM (R105): the engine takes the metering clear claim. -/
def execMeteringClearClaim (s : State) : Result :=
  match nextClaim s with
  | some .meteringClear => .next (clearMetering (dropClaim s))
  | _ => .next s

end Sys2Proof.Machine
end

