-- ==== Sys2Proof/Machine/Commands.lean ====
section
/-! DEFINITION. The meanings of the commands of chapter 9: each begins execution as the first of the command queue, passes the agent's checks (R160) and is carried out by its owner. -/

namespace Sys2Proof.Machine

/-- A row of a command code: it begins execution when the first command of the queue has that code (R159); otherwise
that event does not happen. -/
def begins (k : CommandCode) (body : Command → State → State) (s : State) : Result :=
  match beginning s with
  | some c => occurs (c.code == commandOctet k) s (body c s)
  | none => .next s

/-- The agent's checks 2 to 4 in order (R160); a command that passes them is carried out by its owner. -/
def checked (k : CommandCode) (owner : List Byte → State → State) (c : Command) (s : State) : State :=
  if !lengthOk k c.args then complete .badLength [] s
  else if s.part.state = .defect ∧ k ≠ .statusRead then refuseState s
  else
    match agentRangeFailure k c.args with
    | some i => complete .badArgument (be 1 i) s
    | none => owner c.args s

/-- A command addressed to this tap goes through the checks; a broadcast goes unchecked (R158, R160). -/
def answered (k : CommandCode) (owner : List Byte → State → State) (s : State) : Result :=
  begins k (checked k owner) s

/-- UNKNOWN_COMMAND (R160 check 1): the first command's code is none of the 19. -/
def execUnknownCommand (s : State) : Result :=
  match beginning s with
  | some c => occurs (!knownCommand c.code) s (complete .unknownCommand [] s)
  | none => .next s

/-! ### Status and counters (R164, R165) -/

/-- STATUS_READ (R164): the status values at execution. -/
def execStatusRead (s : State) : Result := answered .statusRead (fun _ t => complete .ok (statusResults t) t) s

/-- Every port counter cleared (R180). -/
def clearPort (p : Port) : Port := { p with counters := .zero }

/-- Every counter of the part cleared as one action (R180). -/
def clearCounters (s : State) : State :=
  { s with
    links := { s.links with field := clearPort s.links.field, head := clearPort s.links.head }
    sync := { s.sync with taken := 0, ignored := 0 }
    engine := { s.engine with counters := .zero }
    circuits := s.circuits.map fun x => { x with paired := 0, missed := 0, unqualified := 0, flushed := 0, duplicate := 0 }
    refs := s.refs.map fun q => { q with stored := 0, duplicates := 0, late := 0, gaps := 0 }
    plan := { s.plan with passes := 0 }
    builder := { s.builder with built := 0, emptyBuilt := 0, dropped := 0 }
    session := { s.session with
      acksTaken := 0, acksStale := 0, acksStray := 0, retransmitTimeouts := 0, retransmissions := 0, acknowledged := 0,
      restored := 0 }
    agent := { s.agent with malformed := 0, overruns := 0, duplicates := 0, repeated := 0, broadcastsIgnored := 0 }
    events := { s.events with lostCounter := 0 } }

/-- COUNTERS_READ (R165, R179, R180): the 46 counters as they stand; with clear yes they are then cleared. -/
def countersRead (args : List Byte) (s : State) : State :=
  complete .ok (octetAt args 0 :: counterOctets s) (if boolOf (octetAt args 0) then clearCounters s else s)

/-- COUNTERS_READ (R165). -/
def execCountersRead (s : State) : Result := answered .countersRead countersRead s

/-! ### Loading the shadow bank (R43 to R49) -/

/-- Updates the contents of the shadow bank; its header stays as it was (R41). -/
def onShadow (f : PlanContents → PlanContents) : State → State :=
  State.onPlan fun p => { p with shadow := { p.shadow with contents := f p.shadow.contents } }

/-- PLAN_CLEAR (R43). -/
def execPlanClear (s : State) : Result :=
  answered .planClear (fun _ t => complete .ok [] (t.onPlan fun p => { p with shadow := emptyBank })) s

/-- PLAN_COPY (R44): the active bank as stored, header included. -/
def execPlanCopy (s : State) : Result :=
  answered .planCopy (fun _ t =>
    complete .ok (be 4 t.plan.active.generation.toNat ++ be 4 t.plan.active.check.toNat)
      (t.onPlan fun p => { p with shadow := p.active })) s

/-- The entries held in the shadow bank, as a result (R163, R166). -/
def shadowHeld (s : State) : List Byte := be 2 s.plan.shadow.contents.streams.length

/-- The keys of a command that are not yet in the shadow list (R45 check 3). -/
def newKeys (es : List StreamEntry) (streams : List StreamEntry) : Nat :=
  (es.filter fun e => (lookupStream streams (entryKey e)).isNone).length

/-- STREAM_LOAD (R45): the three checks on the whole command, then every entry is applied. -/
def streamLoad (args : List Byte) (s : State) : State :=
  let es := items args 4
  let entries := es.map streamEntryOf
  let streams := s.plan.shadow.contents.streams
  match firstFailing (es.map fun e => keyOk e && targetOk e) with
  | some i => complete .badArgument (be 1 i) s
  | none =>
    match firstRepeat [] 0 (entries.map entryKey) with
    | some i => complete .badArgument (be 1 i) s
    | none =>
      if Config.streamPlaces < streams.length + newKeys entries streams then complete .tableFull (shadowHeld s) s
      else
        let t := onShadow (fun p => { p with streams := entries.foldl (fun l e => insertStream e l) p.streams }) s
        complete .ok (shadowHeld t) t

/-- STREAM_LOAD (R45). -/
def execStreamLoad (s : State) : Result := answered .streamLoad streamLoad s

/-- STREAM_REMOVE (R46): ranges, then presence of every key, then removal. -/
def streamRemove (args : List Byte) (s : State) : State :=
  let ks := items args 2
  let keys := ks.map itemKey
  match firstFailing (ks.map keyOk) with
  | some i => complete .badArgument (be 1 i) s
  | none =>
    match firstFailing (keys.map fun k => (lookupStream s.plan.shadow.contents.streams k).isSome) with
    | some i => complete .notFound (be 1 i) s
    | none =>
      let t := onShadow (fun p => { p with streams := removeStreams keys p.streams }) s
      complete .ok (shadowHeld t) t

/-- STREAM_REMOVE (R46). -/
def execStreamRemove (s : State) : Result := answered .streamRemove streamRemove s

/-- CIRCUIT_LOAD (R47): the first failing field, or the record replaced whole. -/
def circuitLoad (args : List Byte) (s : State) : State :=
  match circuitLoadFailure args with
  | some i => complete .badArgument (be 1 i) s
  | none => complete .ok []
      (onShadow (fun p => { p with circuits := p.circuits.set (octetAt args 0).toNat (circuitRecordOf args) }) s)

/-- CIRCUIT_LOAD (R47). -/
def execCircuitLoad (s : State) : Result := answered .circuitLoad circuitLoad s

/-- REFERENCE_LOAD (R48): the first failing field, or the record replaced whole. -/
def referenceLoad (args : List Byte) (s : State) : State :=
  match referenceLoadFailure args with
  | some i => complete .badArgument (be 1 i) s
  | none => complete .ok []
      (onShadow (fun p => { p with references := p.references.set (octetAt args 0).toNat (refRecordOf args) }) s)

/-- REFERENCE_LOAD (R48). -/
def execReferenceLoad (s : State) : Result := answered .referenceLoad referenceLoad s

/-- The bank an argument names (R197). -/
def bankOf (b : Byte) (p : PlanStore) : Bank := if b = 0 then p.active else p.shadow

/-- PLAN_READ (R49): start and count are checked for the section; the read changes nothing of the plan. -/
def planRead (args : List Byte) (s : State) : State :=
  let section_ := (octetAt args 1).toNat
  let start := (octetAt args 2).toNat
  let count := (octetAt args 3).toNat
  match planReadFailure section_ start count with
  | some i => complete .badArgument (be 1 i) s
  | none => complete .ok (planReadResults (bankOf (octetAt args 0) s.plan) section_ start count) s

/-- PLAN_READ (R49). -/
def execPlanRead (s : State) : Result := answered .planRead planRead s

/-! ### PLAN_COMMIT (R50 to R53) -/

/-- Check 3 of R51 for one enabled circuit: the first of 3a to 3d that fails. -/
def circuitInvalid (p : PlanContents) (c : Fin 96) : Option (InvalidReason × Nat) :=
  let r := circuitRecord p c
  if !r.enabled then none
  else if keysOf p.streams (.current c) = [] then some (.noCurrentStream, c.val)
  else if !(refRecord p r.reference).enabled then some (.referenceDisabled, c.val)
  else if keysOf p.streams (.voltage r.reference) = [] then some (.noVoltageStream, c.val)
  else if r.account = 0 then some (.accountZero, c.val)
  else none

/-- Validation of a bank's contents (R51): the first failure, with its reason and index. -/
def planInvalid (p : PlanContents) : Option (InvalidReason × Nat) :=
  match allReferences.find? fun r => decide (2 ≤ (keysOf p.streams (.voltage r)).length) with
  | some r => some (.voltageShared, r.val)
  | none =>
    match allCircuits.find? fun c => decide (2 ≤ (keysOf p.streams (.current c)).length) with
    | some c => some (.currentShared, c.val)
    | none => allCircuits.findSome? (circuitInvalid p)

/-- PLAN_COMMIT (R50 to R53): validation, the check comparison, then the boundary claim, the command held. -/
def planCommit (args : List Byte) (s : State) : State :=
  match planInvalid s.plan.shadow.contents with
  | some (reason, i) => complete .planInvalid (reasonCode reason :: be 1 i) s
  | none =>
    let computed := planCheck s.plan.shadow.contents
    if computed = BitVec.ofNat 32 (fieldAt args 0 4) then placeClaim (.commitBoundary computed) (hold .commit s)
    else complete .checkMismatch (be 4 computed.toNat) s

/-- PLAN_COMMIT (R50). -/
def execPlanCommit (s : State) : Result := answered .planCommit planCommit s

/-! ### Session and reporting (R139, R150, R131, R168) -/

/-- SESSION_OPEN in CLOSED (R139, R124). -/
def openSession (id first : Half) (s : State) : State :=
  (s.onSession fun q =>
    { q with state := .open_, id := some id, next := first, highest := some (first - 1), timeouts := 0, cause := .none,
             timer := none }).onBuilder
    fun b => { b with timer := some (1000 * b.interval), idle := 0 }

/-- SESSION_OPEN (R139): refused in OPEN and HOLD. -/
def sessionOpen (args : List Byte) (s : State) : State :=
  if sessionLive s then refuseState s
  else complete .ok [] (openSession (BitVec.ofNat 16 (fieldAt args 0 2)) (BitVec.ofNat 16 (fieldAt args 2 2)) s)

/-- SESSION_OPEN (R139). -/
def execSessionOpen (s : State) : Result := answered .sessionOpen sessionOpen s

/-- The closing entries carried by records return to WAITING, keeping their places (R134, R150). -/
def unbindClosings (rs : List Record) (ks : List Closing) : List Closing :=
  ks.map fun k => if carriedBy rs k then { k with bound := none } else k

/-- The session after a close (R150 steps 1 and 3); the next sequence keeps its value. -/
def closedSession (q : Session) : Session :=
  { q with queue := [], restored := q.restored + BitVec.ofNat 32 q.queue.length, state := .closed, id := none,
           highest := none, cause := .none, timeouts := 0, timer := none }

/-- SESSION_CLOSE in OPEN or HOLD (R150): every record is taken apart; a restore claim is placed for UNITS entries and
the command held, or it completes at once. -/
def closeSession (s : State) : State :=
  let rs := s.session.queue
  let back := (s.builder.closings.filter (carriedBy rs)).length
  let s1 := ((orphanTx rs s).onSession closedSession).onBuilder fun b =>
    { b with closings := unbindClosings rs b.closings, timer := none }
  if unitsOf rs = [] then complete .ok (be 1 rs.length ++ be 1 back) s1
  else placeClaim (.sessionRestore (unitsOf rs)) (hold (.sessionClose rs.length back) s1)

/-- SESSION_CLOSE (R150): refused in CLOSED. -/
def execSessionClose (s : State) : Result :=
  answered .sessionClose (fun _ t => if sessionLive t then closeSession t else refuseState t) s

/-- REPORT_CONFIG (R123, R140, R168): the four settings are set together and returned. -/
def reportConfig (args : List Byte) (s : State) : State :=
  complete .ok (args.take 7)
    ((s.onBuilder fun b => { b with interval := fieldAt args 0 2, urgent := fieldAt args 2 2 }).onSession
      fun q => { q with retry := fieldAt args 4 1, timeout := fieldAt args 5 2 })

/-- REPORT_CONFIG (R168). -/
def execReportConfig (s : State) : Result := answered .reportConfig reportConfig s

/-- A flush trigger (R125, R131). -/
def flushTrigger : State → State := trigger ⟨false, true, false⟩

/-- REPORT_FLUSH addressed to this tap (R131): refused in CLOSED; a dropped trigger completes with no record built, an
accepted one holds the command until its run is taken. -/
def reportFlush (s : State) : State :=
  if !sessionLive s then refuseState s
  else if builderAccepts s then hold .flush (flushTrigger s)
  else complete .ok ([0] ++ be 2 0 ++ be 1 0) (flushTrigger s)

/-- REPORT_FLUSH (R131, R158): a broadcast gives its trigger and completes at once, without a response. -/
def execReportFlush (s : State) : Result :=
  begins .reportFlush (fun c t =>
    match c.broadcast with
    | some _ => completeBroadcast (flushTrigger t)
    | none => checked .reportFlush (fun _ u => reportFlush u) c t) s

/-! ### Readout (R169) -/

/-- CIRCUIT_READ (R169): the read claim is placed and the command held. -/
def circuitRead (args : List Byte) (s : State) : State :=
  let c := Fin.ofNat 96 (octetAt args 0).toNat
  placeClaim (.circuitRead c) (hold (.circuitRead c) s)

/-- CIRCUIT_READ (R169). -/
def execCircuitRead (s : State) : Result := answered .circuitRead circuitRead s

/-- REFERENCE_READ (R169): the read claim is placed and the command held. -/
def referenceRead (args : List Byte) (s : State) : State :=
  let r := Fin.ofNat 16 (octetAt args 0).toNat
  placeClaim (.referenceRead r) (hold (.referenceRead r) s)

/-- REFERENCE_READ (R169). -/
def execReferenceRead (s : State) : Result := answered .referenceRead referenceRead s

/-! ### Events and clearing (R170, R104) -/

/-- The mask that EVENT_CONFIG applies: STARTED and PLAN_FAULT taken as set (R170, R173). -/
def appliedMask (argument : Word) : Word := argument ||| 0x00000081#32

/-- EVENT_CONFIG (R170): the mask is replaced at once and returned. -/
def eventConfig (args : List Byte) (s : State) : State :=
  let mask := appliedMask (BitVec.ofNat 32 (fieldAt args 0 4))
  complete .ok (be 4 mask.toNat) (s.onEvents fun e => { e with mask := mask })

/-- EVENT_CONFIG (R170). -/
def execEventConfig (s : State) : Result := answered .eventConfig eventConfig s

/-- METERING_CLEAR (R104): refused unless the session is CLOSED; otherwise its claim is placed and the command held. -/
def execMeteringClear (s : State) : Result :=
  answered .meteringClear (fun _ t =>
    if sessionLive t then refuseState t else placeClaim .meteringClear (hold .meteringClear t)) s

/-! ### PART_RESET (R171) -/

/-- The reset is pending, with its deadline 10 ms after the execution (R171). -/
def setPending (copyOf : Option Nat) : State → State :=
  State.onAgent fun a => { a with resetPending := some ⟨Config.resetDeadline, copyOf⟩ }

/-- A broadcast PART_RESET (R171): the reset waits for its downstream copy or the deadline, or starts at once when that
copy has already been sent. -/
def broadcastReset (number : Nat) (fate : CopyFate) (s : State) : State :=
  match fate with
  | .completed => fullReset .command s
  | .buffered => setPending (some number) (completeBroadcast s)
  | .lost => setPending none (completeBroadcast s)

/-- PART_RESET (R171): its response is formed, and the reset pending is set. -/
def execPartReset (s : State) : Result :=
  begins .partReset (fun c t =>
    match c.broadcast with
    | some (n, fate) => broadcastReset n fate t
    | none => checked .partReset (fun _ u => setPending none (completeAs true .ok [] u)) c t) s

/-- The 10 ms of a pending reset have passed (R171). -/
def deadlineReached (s : State) : Bool := expires (s.agent.resetPending.map fun r => r.remaining)

/-- PART_RESET_DEADLINE (R171): the deadline of a pending reset starts the reset. -/
def execPartResetDeadline (s : State) : Result := occurs (deadlineReached s) s (fullReset .command s)

end Sys2Proof.Machine
end

