-- ==== Sys2Proof/Machine/Links.lean ====
section
/-! DEFINITION. The meanings of the link commands (chapter 1): port states, breaks, reception, and the two transmit sides with the Head transmit arbiter. -/

namespace Sys2Proof.Machine

/-! ### Port states (R1 to R4) -/

/-- SIGNAL_RETURN (R1): the line carries signal from now on; a running port in DOWN starts its qualification from zero. -/
def execSignalReturn (p : PortId) (s : State) : Result :=
  occurs (decide ((s.port p).state = .down ∧ (s.port p).line = .noSignal)) s
    (s.onPort p fun q => { q with line := .signal, qualified := if running s then some 0 else none })

/-- A port enters UP (R1): LINK_UP is posted, and a restored Head link resumes a held session (R149). Of the postings of
the port and the session, which R175 lets the queue take in either order, LINK_UP is taken first: the model's choice
(assumption log 25). -/
def enterUp (p : PortId) (s : State) : State :=
  let s1 := post .linkUp (portSubject p) 0 (s.onPort p fun q => { q with state := .up, qualified := none })
  if p = .head ∧ s.session.state = .hold then resumeSession s1 else s1

/-- LINK_UP (R1): the qualification measure has reached 1 ms. -/
def execLinkUp (p : PortId) (s : State) : Result :=
  occurs (running s && decide ((s.port p).state = .down) && reached Config.qualifyTime (s.port p).qualified) s (enterUp p s)

/-- A frame in reception is discarded and counted as aborted; a giant's remainder is not counted (R6, R7). -/
def discardReception (q : Port) : Port :=
  match q.reception with
  | .assembling _ =>
    { q with reception := .idle,
             counters := { q.counters with abortedReceptions := q.counters.abortedReceptions + 1 } }
  | .idle => { q with reception := .idle }
  | .skipping => { q with reception := .idle }

/-- A port leaves UP (R2): the frame in reception is discarded, the transmission aborted, the link-down counted and
LINK_DOWN posted; a lost Head link puts an OPEN session into HOLD (R148). Of the postings of the port and the session, which
R175 lets the queue take in either order, LINK_DOWN is taken first, and the records of an aborted EVENT frame wait again
before it: the model's choice (assumption log 25). -/
def leaveUp (p : PortId) (state : PortState) (line : Line) (value : Word) (s : State) : State :=
  let s1 := abortTx p (s.onPort p discardReception)
  let s2 := s1.onPort p fun q =>
    { q with state := state, line := line, qualified := none,
             counters := { q.counters with linkDowns := q.counters.linkDowns + 1 } }
  let s3 := post .linkDown (portSubject p) value s2
  if p = .head ∧ s.session.state = .open_ then enterHold .link s3 else s3

/-- A port enters BREAK (R3, R4): the break is counted, and on the Head port the break timer starts from zero. -/
def enterBreak (p : PortId) (s : State) : State :=
  (s.onPort p fun q =>
    { q with state := .break_, line := .break_, qualified := none,
             counters := { q.counters with breaks := q.counters.breaks + 1 } }).onLinks
    fun l => { l with breakTimer := if p = .head then some 0 else l.breakTimer }

/-- A port in UP loses its link (R2, R3). -/
def loseLink (p : PortId) (k : LinkLoss) (s : State) : State :=
  match k with
  | .signal => leaveUp p .down .noSignal 0 s
  | .break_ => enterBreak p (leaveUp p .break_ .break_ 1 s)

/-- SIGNAL_LOSS (R2): from UP the port leaves UP to DOWN; from DOWN its qualification measure is discarded. -/
def execSignalLoss (p : PortId) (s : State) : Result :=
  match (s.port p).state with
  | .up => .next (loseLink p .signal s)
  | .down => occurs (decide ((s.port p).line = .signal)) s
      (s.onPort p fun q => { q with line := .noSignal, qualified := none })
  | .break_ => .next s

/-- BREAK_ONSET (R3): a running port enters BREAK, leaving UP as R2 gives; a port held in DOWN only sees its line break
(R5). -/
def execBreakOnset (p : PortId) (s : State) : Result :=
  match (s.port p).state with
  | .up => .next (loseLink p .break_ s)
  | .down =>
    if running s then .next (enterBreak p s)
    else .next (s.onPort p fun q => { q with line := .break_, qualified := none })
  | .break_ => .next s

/-- What the line carries after a break ends. -/
def lineAfter (signal : Bool) : Line := if signal then .signal else .noSignal

/-- The break that holds a BREAK bypass: its release is BYPASS_BREAK_RELEASE (R183). -/
def bypassBreak (p : PortId) (s : State) : Bool :=
  p == .head && s.part.state == .bypass && s.part.cause == .break_

/-- BREAK_RELEASE (R3, R4): the port enters DOWN, qualifying if the line carries signal; the Head port's break timer is
discarded. A port held in DOWN only sees its line change (R5). -/
def execBreakRelease (p : PortId) (signalAfter : Bool) (s : State) : Result :=
  match (s.port p).state with
  | .break_ => .next ((s.onPort p fun q =>
      { q with state := .down, line := lineAfter signalAfter, qualified := if signalAfter then some 0 else none }).onLinks
        fun l => { l with breakTimer := if p = .head then none else l.breakTimer })
  | .down => occurs (decide ((s.port p).line = .break_) && !running s && !bypassBreak p s) s
      (s.onPort p fun q => { q with line := lineAfter signalAfter })
  | .up => .next s

/-- BREAK_TIMER_EXPIRY (R4): the break has lasted 40 ms, and the break reset is asserted, a reset with cause BREAK. -/
def execBreakTimerExpiry (s : State) : Result :=
  occurs (decide (s.links.head.state = .break_) && reached Config.breakTime s.links.breakTimer) s (fullReset .break_ s)

/-! ### Reception (R6, R7) -/

/-- FRAME_START (R6): a port in UP begins a new assembly; a frame then in reception is an aborted reception. -/
def execFrameStart (p : PortId) (s : State) : Result :=
  occurs (decide ((s.port p).state = .up)) s
    (s.onPort p fun q => { discardReception q with reception := .assembling [] })

/-- The octet that makes a frame in reception a giant: it is counted and discarded at once (R7). -/
def makeGiant (q : Port) : Port :=
  { q with reception := .skipping, counters := { q.counters with giants := q.counters.giants + 1 } }

/-- GIANT_FRAME (R7): the octet after the 1,024th of a frame arrives. -/
def execGiantFrame (p : PortId) (s : State) : Result :=
  match (s.port p).reception with
  | .assembling octets =>
    occurs (decide ((s.port p).state = .up ∧ octets.length = Config.largestFrame)) s (s.onPort p makeGiant)
  | .idle => .next s
  | .skipping => .next s

/-- FRAME_OCTET (R6, R7): the octet joins the frame in reception, or makes it a giant; with no frame in reception, or in
a giant's remainder, it is ignored. -/
def execFrameOctet (p : PortId) (octet : Byte) (s : State) : Result :=
  match (s.port p).reception with
  | .assembling octets =>
    occurs (decide ((s.port p).state = .up)) s
      (if octets.length < Config.largestFrame then s.onPort p fun q => { q with reception := .assembling (octets ++ [octet]) }
       else s.onPort p makeGiant)
  | .idle => .next s
  | .skipping => .next s

/-- A completed reception is checked (R7): runt, check error, or a good frame that goes where R8 and R9 send it. -/
def checkReception (p : PortId) (octets : List Byte) (s : State) : State :=
  let s1 := s.onPort p fun q => { q with reception := .idle }
  if octets.length < Config.smallestFrame then s1.onPort p (Port.count fun k => { k with runts := k.runts + 1 })
  else if !goodFrame octets then s1.onPort p (Port.count fun k => { k with checkErrors := k.checkErrors + 1 })
  else goodArrival p octets (s1.onPort p (Port.count fun k => { k with received := k.received + 1 }))

/-- A frame end at a port in UP (R6, R7): it completes the reception; without a frame start before it, or after a giant,
it completes nothing. The port goes on ignoring a giant's remainder until the next frame start. -/
def endReception (p : PortId) (s : State) : State :=
  match (s.port p).reception with
  | .assembling octets => checkReception p octets s
  | .idle => s
  | .skipping => s

/-- The ACK for this tap that the frame end completes at the Head port, if the frame in reception is one (R9). -/
def ackEnding (p : PortId) (s : State) : Option Frame :=
  match p, (s.port p).reception with
  | .head, .assembling octets =>
    if takesPart s ∧ Config.smallestFrame ≤ octets.length ∧ goodFrame octets ∧ frameKind octets = kindAck ∧
      frameAddress octets = tapOctet s then some octets else none
  | _, _ => none

/-- An ACK received before its port left UP and taken after the loss (R149): the session is in HOLD with cause LINK, or
CLOSED, when it is taken, or in HOLD with the cause it had before. LINK_DOWN of the port is in the event queue before the
session's REPORT_HOLD, if it enters HOLD now, and before the REPORT_RESUMED of the ACK, an order that R175 leaves open
(DESIGN CHOICE, assumption log 25). -/
def ackAfterLoss (k : LinkLoss) (octets : Frame) (s : State) : State :=
  ackFrame (frameBody octets) (loseLink .head k ((s.onPort .head fun q => { q with reception := .idle }).onPort .head
    (Port.count fun n => { n with received := n.received + 1 })))

/-- FRAME_END (R6, R7) at a port in UP. A loss of the link that falls together with it is taken next, but before an ACK
for this tap, which is then taken after the loss (R149; assumption log 22). So what the frame posts (EPOCH_CHANGED and
SYNC_LOCKED at the Head port, METERING_OVERRUN at the Field port) stands in the event queue before LINK_DOWN, an order
that R175 leaves open (DESIGN CHOICE, assumption log 25). -/
def execFrameEnd (ending : FrameEnding) (s : State) : Result :=
  occurs (decide ((s.port ending.port).state = .up)) s
    (match ending.together with
    | none => endReception ending.port s
    | some k =>
      match ackEnding ending.port s with
      | some octets => ackAfterLoss k octets s
      | none => loseLink ending.port k (endReception ending.port s))

/-! ### Transmission (R12 to R17) -/

/-- FIELD_TRANSMIT_BEGIN (R12): Field transmit begins the frame at the head of the downstream forward buffer. -/
def execFieldTransmitBegin (s : State) : Result :=
  occurs (!s.links.fieldTx && decide (s.links.field.state = .up) && !s.links.down.isEmpty) s
    (s.onLinks fun l => { l with fieldTx := true })

/-- A transmission begins at Head transmit. -/
def beginHead (source : HeadSource) (octets : Frame) : State → State :=
  State.onLinks fun l => { l with headTx := some ⟨source, octets⟩ }

/-- The last-served class becomes the class chosen (R16). -/
def serve (c : TxClass) : State → State := State.onLinks fun l => { l with lastServed := c }

/-- The first records of the event queue, up to 8, become carried (R176). -/
def carryFirst (q : List EventRecord) : List EventRecord :=
  (q.take Config.eventFramePlaces).map (fun r => { r with carried := true }) ++ q.drop Config.eventFramePlaces

/-- The own class transmits: a TALLY frame for the eligible record, or else an EVENT frame (R17, R142, R176). -/
def sendOwn (s : State) : State :=
  match s.session.eligible with
  | some r =>
    let again := decide (r.state = .resend)
    beginHead (.tally (some r.sequence) again) (buildFrame kindTally (tapOctet s) (tallyBody r again)) (serve .own s)
  | none =>
    beginHead .event
      (buildFrame kindEvent (tapOctet s) (eventBody s.events.lost (s.events.queue.take Config.eventFramePlaces)))
      ((serve .own s).onEvents fun e => { e with queue := carryFirst e.queue })

/-- The forward class transmits the frame at the head of the upstream forward buffer (R11, R14). -/
def sendForward (f : Frame) (s : State) : State := beginHead .forward f (serve .forward s)

/-- The arbiter's choice (R16): the response class first, then the forward and own classes in turn. -/
def choose (s : State) : State :=
  match s.agent.responses with
  | r :: _ => beginHead .response (buildFrame kindResponse (tapOctet s) (responseBody r.response)) s
  | [] =>
    match s.links.up with
    | [] => if ownWaiting s then sendOwn s else s
    | f :: _ => if ownWaiting s ∧ s.links.lastServed = .forward then sendOwn s else sendForward f s

/-- HEAD_TRANSMIT_CHOICE (R15, R16): Head transmit is idle with the Head port in UP. -/
def execHeadTransmitChoice (s : State) : Result :=
  occurs (s.links.headTx.isNone && decide (s.links.head.state = .up)) s (choose s)

/-! ### Endings (R13, R142, R162, R171, R177) -/

/-- The record that a completed TALLY frame carried becomes SENT, the highest sent may move, and in OPEN a stopped
retransmit timer starts (R142). -/
def tallySent (seq : Half) (q : Session) : Session :=
  { q with
    queue := q.queue.map fun r => if r.sequence = seq then { r with state := .sent } else r
    highest := match q.highest with
      | none => some seq
      | some h => if q.placeFrom h < q.placeFrom seq then some seq else some h
    timer := if q.state = .open_ ∧ q.timer = none then some q.timeout else q.timer }

/-- A TALLY frame completes (R142): a record that has left the report queue is not touched; a retransmission counts. -/
def tallyComplete (record : Option Half) (retransmit : Bool) (s : State) : State :=
  let s1 := match record with
    | none => s
    | some seq => s.onSession (tallySent seq)
  if retransmit then s1.onSession fun q => { q with retransmissions := q.retransmissions + 1 } else s1

/-- An EVENT frame completes (R177): its carried records leave the queue and the events-lost count becomes 0. -/
def eventComplete : State → State :=
  State.onEvents fun e => { e with queue := e.queue.filter fun r => !r.carried, lost := 0 }

/-- The completed response starts the pending reset (R171). -/
def responseResets (s : State) : Bool :=
  match s.agent.responses with
  | [] => false
  | r :: _ => r.resets

/-- What the source of the frame does on completion (R13). A PART_RESET response that was aborted and is then sent whole
before the deadline starts the reset at that completion, as what comes first (R171): the model's reading, since R171 also
says that after an abort the deadline starts it (assumption log 24). -/
def completeSource (src : HeadSource) (s : State) : State :=
  match src with
  | .response => if responseResets s then fullReset .command s else popResponse s
  | .forward => s.onLinks fun l => { l with up := l.up.tail }
  | .tally record retransmit => tallyComplete record retransmit s
  | .event => eventComplete s

/-- A completed transmission at Head transmit (R13). -/
def completeHead (s : State) : State :=
  match s.links.headTx with
  | none => s
  | some tx =>
    completeSource tx.source ((s.onLinks fun l => { l with headTx := none }).onPort .head
      (Port.count fun k => { k with transmitted := k.transmitted + 1 }))

/-- The pending reset waits for this downstream copy (R171). -/
def copyResets (s : State) (copyOf : Option Nat) : Bool :=
  match s.agent.resetPending, copyOf with
  | some r, some n => r.copyOf == some n
  | _, _ => false

/-- A completed transmission at Field transmit (R12, R13, R171). -/
def completeField (s : State) : State :=
  if s.links.fieldTx then
    if copyResets s (downHeadCopy s) then fullReset .command s
    else (dropDownHead (noteCopy (downHeadCopy s) .completed s)).onPort .field
      (Port.count fun k => { k with transmitted := k.transmitted + 1 })
  else s

/-- TRANSMISSION_COMPLETE (R13): the last octet of the frame in transmission at a port is sent. -/
def execTransmissionComplete (p : PortId) (s : State) : Result :=
  match p with
  | .field => .next (completeField s)
  | .head => .next (completeHead s)

end Sys2Proof.Machine
end

