-- ==== Sys2Proof/Machine/Metering.lean ====
section
/-! DEFINITION. The meanings of the metering commands: the sync timer (R23), a frame's beginning and end (R31, R34), and its samples (chapters 4, 5 and 6). -/

namespace Sys2Proof.Machine

/-! ### Sync timer (R23) -/

/-- The expiry of the sync timer (R23): LOCKED becomes HOLDOVER with a further 5 intervals, HOLDOVER becomes LOST. -/
def syncExpiry (s : State) : State :=
  match s.sync.state with
  | .locked =>
    post .syncHoldover 0 (s.sync.scan.setWidth 32) (s.onSync fun y =>
      { y with state := .holdover, timer := y.interval.map fun i => Config.holdoverIntervals * i })
  | .holdover =>
    post .syncLost 0 (s.sync.scan.setWidth 32) (s.onSync fun y => { y with state := .lost, timer := none })
  | .none => s
  | .lost => s

/-- SYNC_TIMER_EXPIRY (R23): the remaining time is zero. A SYNC frame taken first has restarted the timer, and then the
expiry does not happen. The timer runs in LOCKED and HOLDOVER alone. -/
def execSyncTimerExpiry (s : State) : Result := occurs (expires s.sync.timer) s (syncExpiry s)

/-! ### A frame's samples in order (R32) -/

/-- The target of the stream that a node's channel feeds, if the plan has an entry for it (R33). -/
def targetFor (p : PlanContents) (node : Byte) (channel : Nat) : Option Target :=
  (lookupStream p.streams (node.toNat * 8 + channel)).map fun e => e.target

/-- A sample whose stream has the role CURRENT falls in the second pass (R32). -/
def secondPass (d : DueSample) : Bool :=
  match d.target with
  | some (.current _) => true
  | some (.voltage _) => false
  | some .ignore => false
  | none => false

/-- Marks the last sample of a scan. -/
def markLast : List DueSample → List DueSample
  | [] => []
  | [d] => [{ d with endsScan := true }]
  | d :: e :: rest => d :: markLast (e :: rest)

/-- The samples of scan j of a frame, in the order of its two passes (R32). -/
def scanSamples (p : PlanContents) (f : SampleFrame) (j : Nat) : List DueSample :=
  let row : List DueSample := (List.range f.channels).map fun n =>
    ⟨f.first + BitVec.ofNat 16 j, f.values.getD (j * f.channels + n) 0, targetFor p f.node n, false⟩
  markLast ((row.filter fun d => !secondPass d) ++ row.filter secondPass)

/-- Every sample of a frame, in the order the engine handles them (R32). -/
def frameSamples (p : PlanContents) (f : SampleFrame) : List DueSample :=
  (List.range f.scans).flatMap (scanSamples p f)

/-- The beginning of a frame (R31): discarded when its epoch is no longer current, and otherwise metered under the
active bank as it stands. So a frame left in the queue by a commit to IDLE reaches a circuit that a storage disturbance has
enabled meanwhile, where R106 says that such frames bring no sample to any circuit (DESIGN CHOICE, assumption log 23). -/
def beginFrame (f : SampleFrame) (rest : List SampleFrame) (s : State) : State :=
  if f.epoch ≠ s.sync.epoch then
    s.onEngine fun e =>
      { e with queue := rest, counters := { e.counters with notMeteredEpoch := e.counters.notMeteredEpoch + 1 } }
  else s.onEngine fun e =>
    { e with queue := rest, metering := some ⟨s.plan.active.contents, frameSamples s.plan.active.contents f⟩ }

/-- FRAME_BEGIN (R30, R31): the engine is idle, with no frame in metering and no claim waiting, and a frame is queued. -/
def execFrameBegin (s : State) : Result :=
  match s.engine.queue with
  | [] => .next s
  | f :: rest => occurs (atBoundary s && s.engine.claims.isEmpty) s (beginFrame f rest s)

/-- FRAME_METERED (R34): every sample of the frame has been handled. -/
def execFrameMetered (s : State) : Result :=
  match s.engine.metering with
  | none => .next s
  | some m => occurs m.due.isEmpty s (s.onEngine fun e =>
      { e with metering := none, counters := { e.counters with framesMetered := e.counters.framesMetered + 1 } })

/-- The next sample of the frame in metering, with the plan fixed for the frame (R31, R32). -/
def nextSample (s : State) : Option (PlanContents × DueSample) :=
  match s.engine.metering with
  | none => none
  | some m => m.due.head?.map fun d => (m.plan, d)

/-- The sample has been handled: it leaves the frame, and the last sample of a scan moves the last metered scan (R32). -/
def sampleDone (d : DueSample) : State → State :=
  State.onEngine fun e =>
    { e with metering := e.metering.map fun m => { m with due := m.due.tail },
             lastScan := if d.endsScan then d.scan else e.lastScan }

/-- UNMAPPED_SAMPLE (R33): a sample without a stream entry is counted; an IGNORE stream or a disabled target skips it. -/
def execUnmappedSample (s : State) : Result :=
  match nextSample s with
  | none => .next s
  | some (p, d) =>
    match handlingOf p d.target with
    | .unmapped => .next (sampleDone d (s.onScanCounters fun k => { k with unmapped := k.unmapped + 1 }))
    | .skipped => .next (sampleDone d s)
    | .voltage _ => .next s
    | .current _ => .next s

/-! ### History rings (R65, R66) -/

/-- Places a sample, walking from the newest end: after the first sample it is newer than (R66, R87). The list is newest
first. -/
def placeNewestFirst {α : Type} (scanOf : α → Half) (x : α) : List α → List α
  | [] => [x]
  | y :: ys => if newer (scanOf x) (scanOf y) then x :: y :: ys else y :: placeNewestFirst scanOf x ys

/-- Places a sample in a list kept oldest first (R66, R87). -/
def placeByScan {α : Type} (scanOf : α → Half) (x : α) (l : List α) : List α :=
  (placeNewestFirst scanOf x l.reverse).reverse

/-- The sample is late: the ring is full and the scan is older than its oldest (R66 step 2). In a full ring that spans more
than 32768 scans, a scan exactly 32768 from the newest can be newer than the oldest: step 2 does not call it late, the
last sentence of R66 does. The steps are followed, and it is stored (DESIGN CHOICE, assumption log 27). -/
def isLate (ring : List RingSample) (u : Half) : Bool :=
  match ring with
  | [] => false
  | o :: _ => decide (Config.ringPlaces ≤ ring.length) && older u o.scan

/-- The ring with the sample stored; a ring of 33 loses its oldest (R66). -/
def ringStore (ring : List RingSample) (x : RingSample) : List RingSample :=
  let placed := placeByScan RingSample.scan x ring
  if Config.ringPlaces < placed.length then placed.tail else placed

/-- A stored sample is the ring's new newest when the ring was empty or its scan is newer than the newest (R66). -/
def isNewNewest (ring : List RingSample) (u : Half) : Bool :=
  match ringNewest ring with
  | none => true
  | some n => newer u n.scan

/-! ### The census (R70 to R75) -/

/-- A sample's value less the zero offset, exact (R70). -/
def levelOf (r : RefRecord) (value : Half) : Int := value.toInt - r.zeroOffset.toInt

/-- The census counts gaps and crossings in these states; IDLE and UNCHECKED do nothing (R69, R70). -/
def censusRuns (st : CensusState) : Bool :=
  match st with
  | .idle => false
  | .unchecked => false
  | .qualifying => true
  | .qualified => true
  | .outOfBand => true
  | .lost => true

/-- The predecessor lies more than 64 scans back: a gap (R70). -/
def isGap (prior : Option RingSample) (u : Half) : Bool :=
  match prior with
  | none => false
  | some y => decide (Config.gapScans < beyond u y.scan)

/-- An upward crossing between the predecessor and the new sample, with no gap between (R70). -/
def isCrossing (r : RefRecord) (prior : Option RingSample) (x : RingSample) : Bool :=
  match prior with
  | none => false
  | some y => !isGap prior x.scan && decide (levelOf r y.value < 0) && decide (0 ≤ levelOf r x.value)

/-- A short sum lies in band (R72). -/
def inBand (r : RefRecord) (sum : Nat) : Bool :=
  decide (Config.periodsPerShort * r.bandMin.toNat ≤ sum) && decide (sum ≤ Config.periodsPerShort * r.bandMax.toNat)

/-- The long sum that a short sum joins (R72). -/
def joinLong (sum : Nat) (k : Census) : Census :=
  if k.shorts + 1 = Config.shortsPerLong then { k with lastLong := k.runLong + sum, shorts := 0, runLong := 0 }
  else { k with shorts := k.shorts + 1, runLong := k.runLong + sum }

/-- A period joins the running short sum; the sixteenth forms a short sum, tested against the band (R71, R72). -/
def joinPeriod (r : RefRecord) (period : Nat) (k : Census) : Census :=
  if k.periods + 1 = Config.periodsPerShort then
    joinLong (k.runShort + period)
      { k with lastPeriod := period, lastShort := k.runShort + period, periods := 0, runShort := 0,
               state := if inBand r (k.runShort + period) then .qualified else .outOfBand }
  else { k with lastPeriod := period, runShort := k.runShort + period, periods := k.periods + 1 }

/-- The event that a change of census state posts, if any: the kind (R72). -/
def bandEvent (before after : CensusState) : Option EventKind :=
  match after with
  | .qualified => if before = .qualified then none else some .refQualified
  | .outOfBand => if before = .outOfBand then none else some .refOutOfBand
  | .idle => none
  | .unchecked => none
  | .qualifying => none
  | .lost => none

/-- A crossing taken (R71, R75): in LOST the census returns to QUALIFYING; otherwise a valid period base forms a period. -/
def takeCrossing (r : RefRecord) (u : Half) (k : Census) : Census :=
  if k.state = .lost then
    { k with state := .qualifying, lastCrossing := some u, watch := some u, baseValid := true, periods := 0, runShort := 0,
             shorts := 0, runLong := 0 }
  else
    let k1 := match k.baseValid, k.lastCrossing with
      | true, some c => joinPeriod r (beyond u c) k
      | _, _ => k
    { k1 with lastCrossing := some u, watch := some u, baseValid := true }

/-- The first sample seen after a restart becomes the watch scan (R74). -/
def keepWatch (u : Half) (k : Census) : Census :=
  match k.watch with
  | none => { k with watch := some u }
  | some _ => k

/-- The LOST test (R74): the sample lies more than 4 maximum periods beyond the watch scan. -/
def isLost (r : RefRecord) (u : Half) (k : Census) : Bool :=
  match k.state, k.watch with
  | .qualifying, some w => newer u w && decide (Config.lostPeriods * r.bandMax.toNat < beyond u w)
  | .qualified, some w => newer u w && decide (Config.lostPeriods * r.bandMax.toNat < beyond u w)
  | .outOfBand, some w => newer u w && decide (Config.lostPeriods * r.bandMax.toNat < beyond u w)
  | _, _ => false

/-- The census after the gap and crossing decisions for the new newest sample (R70, R71, R75), its watch scan kept. -/
def censusCrossed (r : RefRecord) (prior : Option RingSample) (x : RingSample) (k : Census) : Census :=
  keepWatch x.scan
    (if isGap prior x.scan then { k with baseValid := false }
     else if isCrossing r prior x then takeCrossing r x.scan k else k)

/-- The census of a reference sees its ring's new newest sample (R67, R70, R74), posting REF_QUALIFIED, REF_OUT_OF_BAND
and REF_LOST. -/
def censusSees (plan : PlanContents) (i : Fin 16) (prior : Option RingSample) (x : RingSample) (s : State) : State :=
  let r := refRecord plan i
  let k := (s.ref i).census
  if censusRuns k.state then
    let k1 := censusCrossed r prior x k
    let s1 := s.onRef i fun q => { q with census := k1, gaps := if isGap prior x.scan then q.gaps + 1 else q.gaps }
    let s2 := match bandEvent k.state k1.state with
      | none => s1
      | some e => post e (BitVec.ofNat 16 i.val) (BitVec.ofNat 32 k1.lastShort) s1
    if isLost r x.scan k1 then
      post .refLost (BitVec.ofNat 16 i.val) ((k1.watch.getD 0).setWidth 32)
        (s2.onRef i fun q => { q with census := { q.census with state := .lost } })
    else s2
  else s

/-! ### A pair (R89 to R101, R108 to R112) -/

/-- The corrected product p″ of a pair (R91): gain and offset applied to the exact product. -/
def correctedProduct (r : CircuitRecord) (i v : Half) : Int :=
  let p := v.toInt * i.toInt
  p + (p * r.gain.toInt).tdiv 65536 + r.offset.toInt

/-- The direction that receives energy, if any (R92). -/
def energyDirection (p : Int) : Option Direction := if 0 < p then some .imp else if p < 0 then some .exp else none

/-- Energy joins an accumulator; what does not fit joins the saturation loss (R92). -/
def addEnergy (n : Nat) (d : DirState) : DirState :=
  if d.accumulator + n ≤ Config.energyMax then { d with accumulator := d.accumulator + n }
  else { d with accumulator := Config.energyMax,
                satLoss := min (d.satLoss + (d.accumulator + n - Config.energyMax)) Config.energyMax }

/-- The effective quantum (R93). -/
def effectiveQuantum (r : CircuitRecord) : Nat :=
  if r.acceleration = 0 then max 1 (Config.quotientByZero r.quantum)
  else max 1 (r.quantum.toNat / r.acceleration.toNat)

/-- A unit is generated (R95): pending rises and the taints are set; an urgent level reached gives an urgent trigger. -/
def generateUnit (r : CircuitRecord) (c : Fin 96) (d : Direction) (s : State) : State :=
  let s1 := s.onDir c d fun x =>
    { x with pending := x.pending + 1,
             test := x.test || decide (1 < r.acceleration.toNat),
             holdover := x.holdover || s.sync.state == .holdover }
  if s.builder.urgent ≤ ((s1.circ c).dir d).pending then trigger ⟨false, false, true⟩ s1 else s1

/-- A unit is due (R95, R96): generated for a selected direction, suppressed for another. -/
def unitDue (r : CircuitRecord) (c : Fin 96) (d : Direction) (s : State) : State :=
  if selects r.select d then generateUnit r c d s
  else s.onDir c d fun x => { x with suppressed := x.suppressed + 1 }

/-- An overflow is taken (R93, R94): one effective quantum leaves the accumulator and the partial count rises; at the
divisor it returns to 0 and a unit is due. -/
def takeOverflow (r : CircuitRecord) (c : Fin 96) (d : Direction) (s : State) : State :=
  let n := ((s.circ c).dir d).partialCount + 1
  let s1 := s.onDir c d fun x => { x with accumulator := x.accumulator - effectiveQuantum r }
  if n = r.divisor.toNat then unitDue r c d (s1.onDir c d fun x => { x with partialCount := 0 })
  else s1.onDir c d fun x => { x with partialCount := n }

/-- An overflow is due: the accumulator holds at least one effective quantum and the direction is not blocked (R93). -/
def overflowDue (r : CircuitRecord) (x : DirState) : Bool := decide (effectiveQuantum r ≤ x.accumulator) && !x.blocked

/-- The owed-cap test blocks a selected direction (R98). -/
def capBlocks (r : CircuitRecord) (d : Direction) (x : DirState) : Bool :=
  selects r.select d && decide (x.owed = Config.owedCap)

/-- The overflow check of a direction (R93, R98); true with the state when an overflow was taken. -/
def overflowCheck (r : CircuitRecord) (c : Fin 96) (d : Direction) (s : State) : State × Bool :=
  let x := (s.circ c).dir d
  if overflowDue r x then
    if capBlocks r d x then
      (post .circuitBlocked (BitVec.ofNat 16 c.val) (directionCode d) (s.onDir c d fun y => { y with blocked := true }), false)
    else (takeOverflow r c d s, true)
  else (s, false)

/-- The floor restarts after an overflow (R110). -/
def floorRestart (c : Fin 96) (d : Direction) (s : State) : State :=
  let s1 := s.onCirc c fun x => { x with floorAcc := 0, floor := .active }
  if (s.circ c).floor = .quiet then post .circuitActive (BitVec.ofNat 16 c.val) (directionCode d) s1 else s1

/-- A direction's accumulator is discarded into its floor-discarded total (R112). -/
def discardEnergy (x : DirState) : DirState :=
  { x with floorDiscarded := min (x.floorDiscarded + x.accumulator) Config.energyMax, accumulator := 0 }

/-- A quiet discard (R112). -/
def quietDiscard (c : Fin 96) (s : State) : State :=
  let x := s.circ c
  let s1 := s.onCirc c fun y =>
    { y with imp := discardEnergy y.imp, exp := discardEnergy y.exp, floorAcc := 0, floor := .quiet }
  if x.floor = .active then
    post .circuitQuiet (BitVec.ofNat 16 c.val)
      (BitVec.ofNat 32 (min (x.imp.accumulator + x.exp.accumulator) Config.quietValueMax)) s1
  else s1

/-- The floor takes a step; at the limit a quiet discard follows at once (R111). -/
def floorStep (r : CircuitRecord) (c : Fin 96) (s : State) : State :=
  let sum := (s.circ c).floorAcc + r.floorStep.toNat
  let s1 := s.onCirc c fun x => { x with floorAcc := sum }
  if sum < r.floorLimit.toNat then s1 else quietDiscard c s1

/-- The floor at a gated pair (R108, R109): a restart for the direction of an overflow, else a step. With the stored floor
enable no it does nothing; where a disturbance turned it to no, the floor accumulator and state stay as they were, by the
model's choice (assumption log 23). -/
def floorAtPair (r : CircuitRecord) (c : Fin 96) (overflow : Option Direction) (s : State) : State :=
  if r.floorEnable then
    match overflow with
    | some d => floorRestart c d s
    | none => floorStep r c s
  else s

/-- A pair that passed the gate, in the order of R101. -/
def accumulatePair (r : CircuitRecord) (c : Fin 96) (i v : Half) (s : State) : State :=
  let s1 := s.onCirc c fun x => { x with paired := x.paired + 1 }
  let p := correctedProduct r i v
  match energyDirection p with
  | none => floorAtPair r c none s1
  | some d =>
    let checked := overflowCheck r c d (s1.onDir c d (addEnergy p.natAbs))
    floorAtPair r c (if checked.2 then some d else none) checked.1

/-- A pair is formed (R77, R89): gated on the census state of the circuit's reference, then accumulated. -/
def formPair (plan : PlanContents) (c : Fin 96) (i v : Half) (s : State) : State :=
  let r := circuitRecord plan c
  if gateOpen (s.ref r.reference).census.state then accumulatePair r c i v s
  else s.onCirc c fun x => { x with unqualified := x.unqualified + 1 }

/-! ### Park queues (R86 to R88) -/

/-- A miss is counted for a circuit (R86 to R88). -/
def countMiss (c : Fin 96) : State → State := State.onCirc c fun x => { x with missed := x.missed + 1 }

/-- The park queue of one circuit is served against a stored voltage sample of scan u (R88): heads not newer than u pair
with the ring or are misses. The test of the head alone decides, also where parked scans lie more than 32767 scans from u,
of which the last sentences of R88 say otherwise (DESIGN CHOICE, assumption log 27). -/
def servePark (plan : PlanContents) (ring : List RingSample) (u : Half) (c : Fin 96) : List Parked → State → State
  | [], s => s
  | h :: rest, s =>
    if newer h.scan u then s
    else
      let s1 := s.onCirc c fun x => { x with park := rest }
      let s2 := match ringLookup ring h.scan with
        | some y => formPair plan c h.value y.value s1
        | none => countMiss c s1
      servePark plan ring u c rest s2

/-- The circuits that park service visits: enabled in the fixed plan and naming the reference, ascending (R88). After a
storage disturbance of a stored reference index the park queue stays and is served from the reference named now, although
its samples need not be newer than that ring's newest, as R87 states (DESIGN CHOICE, assumption log 23). -/
def servedCircuits (plan : PlanContents) (r : Fin 16) : List (Fin 96) :=
  allCircuits.filter fun c => (circuitRecord plan c).enabled && decide ((circuitRecord plan c).reference = r)

/-- Park service after a voltage sample is stored (R88). -/
def parkService (plan : PlanContents) (r : Fin 16) (u : Half) (s : State) : State :=
  (servedCircuits plan r).foldl (fun t c => servePark plan (t.ref r).ring u c (t.circ c).park t) s

/-- A voltage sample of an enabled reference (R66, R67): duplicate, late, or stored, seen by the census when it is the new
newest, and used to serve park queues. -/
def voltage (plan : PlanContents) (r : Fin 16) (x : RingSample) (s : State) : State :=
  let ring := (s.ref r).ring
  if (ringLookup ring x.scan).isSome then s.onRef r fun q => { q with duplicates := q.duplicates + 1 }
  else if isLate ring x.scan then s.onRef r fun q => { q with late := q.late + 1 }
  else
    let s1 := s.onRef r fun q => { q with ring := ringStore ring x, stored := q.stored + 1 }
    let s2 := if isNewNewest ring x.scan then censusSees plan r (ringNewest ring) x s1 else s1
    parkService plan r x.scan s2

/-- VOLTAGE_SAMPLE (R66): the next sample of the frame is a voltage sample of an enabled reference. -/
def execVoltageSample (s : State) : Result :=
  match nextSample s with
  | none => .next s
  | some (p, d) =>
    match handlingOf p d.target with
    | .voltage r => .next (sampleDone d (voltage p r ⟨d.scan, d.value⟩ s))
    | .unmapped => .next s
    | .skipped => .next s
    | .current _ => .next s

/-- Polarity applied to a current sample; the negation of −32768 becomes 32767 (R86). -/
def applyPolarity (p : Polarity) (v : Half) : Half :=
  match p with
  | .normal => v
  | .inverted => if v = 0x8000 then 0x7FFF else -v

/-- A sample joins a park queue, a full one first losing its oldest as a miss (R87). -/
def parkSample (c : Fin 96) (x : Parked) (s : State) : State :=
  let q := (s.circ c).park
  if Config.parkPlaces ≤ q.length then
    (countMiss c s).onCirc c fun y => { y with park := placeByScan Parked.scan x q.tail }
  else s.onCirc c fun y => { y with park := placeByScan Parked.scan x q }

/-- The ring is empty, or the scan is newer than its newest (R86 step 3). -/
def mayPark (ring : List RingSample) (t : Half) : Bool := isNewNewest ring t

/-- A current sample of an enabled circuit (R86): pair, duplicate, park or miss. -/
def current (plan : PlanContents) (c : Fin 96) (t value : Half) (s : State) : State :=
  let r := circuitRecord plan c
  let i := applyPolarity r.polarity value
  let ring := (s.ref r.reference).ring
  match ringLookup ring t with
  | some y => formPair plan c i y.value s
  | none =>
    if (s.circ c).park.any (fun x => x.scan == t) then s.onCirc c fun x => { x with duplicate := x.duplicate + 1 }
    else if mayPark ring t then parkSample c ⟨t, i⟩ s
    else countMiss c s

/-- CURRENT_SAMPLE (R86): the next sample of the frame is a current sample of an enabled circuit. -/
def execCurrentSample (s : State) : Result :=
  match nextSample s with
  | none => .next s
  | some (p, d) =>
    match handlingOf p d.target with
    | .current c => .next (sampleDone d (current p c d.scan d.value s))
    | .unmapped => .next s
    | .skipped => .next s
    | .voltage _ => .next s

end Sys2Proof.Machine
end

