-- ==== Sys2Proof/Machine/Start.lean ====
section
/-! DEFINITION. The meanings of the part controller's commands (chapter 11): the supply, the ends of BYPASS and the end of the self-check; and the passing of a millisecond. -/

namespace Sys2Proof.Machine

/-- SUPPLY_FAIL (R182): the supply is not good, and a reset with cause POWER begins, in any part state. -/
def execSupplyFail (s : State) : Result := .next (fullReset .power s)

/-- The part is in BYPASS for a cause. -/
def bypassFor (cause : ResetCause) (s : State) : Bool := s.part.state == .bypass && s.part.cause == cause

/-- SUPPLY_GOOD (R182): it ends a BYPASS with cause POWER. -/
def execSupplyGood (straps : BitVec 5) (s : State) : Result := occurs (bypassFor .power s) s (enterStarting straps s)

/-- BYPASS_BREAK_RELEASE (R183): it ends a BYPASS with cause BREAK. -/
def execBypassBreakRelease (signalAfter : Bool) (straps : BitVec 5) (s : State) : Result :=
  occurs (bypassFor .break_ s) s
    (enterStarting straps (s.onPort .head fun q => { q with line := lineAfter signalAfter }))

/-- COMMAND_BYPASS_END (R184): the 1 ms of a BYPASS with cause COMMAND has passed. -/
def execCommandBypassEnd (straps : BitVec 5) (s : State) : Result :=
  occurs (bypassFor .command s && expires s.part.bypassTimer) s (enterStarting straps s)

/-- The part state after STARTING (R186). -/
def stateAfterCheck (tap : BitVec 5) (passed : Bool) : PartState :=
  if tap = 0 ∨ tap = 31 then .passive else if passed then .idle else .defect

/-- A port begins with what its line then carries: signal qualifies from zero, a break counts as an onset (R186). -/
def startPort (p : PortId) (s : State) : State :=
  match (s.port p).line with
  | .noSignal => s
  | .signal => s.onPort p fun q => { q with qualified := some 0 }
  | .break_ => enterBreak p s

/-- The value of STARTED: the reset cause, with the DEFECT flag in the octet above it (R187, R196). -/
def startedValue (cause : ResetCause) (st : PartState) : Word :=
  (causeCode cause).setWidth 32 ||| (if st = .defect then 0x100 else 0)

/-- SELF_CHECK_END (R185 to R187): the memories are cleared again, the part state is chosen, the relay opens the bypass
path, the ports begin, and STARTED is posted in DEFECT and IDLE. -/
def execSelfCheckEnd (passed : Bool) (s : State) : Result :=
  let next := stateAfterCheck s.part.tap passed
  occurs (decide (s.part.state = .starting)) s
    (post .started 0 (startedValue s.part.cause next)
      (startPort .head (startPort .field
        ((s.onPart fun p => { p with state := next, selfCheckPassed := passed, relayDrive := true }).onPlan
          fun _ => .reset))))

/-! ### A millisecond (R188) -/

/-- A running timer loses a millisecond and stays at 0 until its expiry is taken. -/
def Timer.tick (t : Timer) : Timer := t.map fun n => n - 1

/-- A measure in progress gains a millisecond. -/
def measureTick (t : Option Nat) : Option Nat := t.map fun n => n + 1

/-- A port's qualification measure gains a millisecond (R1). -/
def Port.tick (p : Port) : Port := { p with qualified := measureTick p.qualified }

/-- The scrubber's wait loses a millisecond (R60). -/
def PassState.tick : PassState → PassState
  | .stopped => .stopped
  | .waiting n => .waiting (n - 1)
  | .running i k => .running i k

/-- One millisecond passes (R188): the counter counts from STARTING on, and every running timer and measure moves; the
1 ms of a COMMAND bypass is timed without the counter (R184). What a timer does on reaching its end is its own command. -/
def millisecond (s : State) : State :=
  if s.part.state = .bypass then s.onPart fun p => { p with bypassTimer := p.bypassTimer.tick }
  else
    { s with
      part := { s.part with ms := s.part.ms + 1 }
      links := { s.links with field := s.links.field.tick, head := s.links.head.tick,
                              breakTimer := measureTick s.links.breakTimer }
      sync := { s.sync with timer := s.sync.timer.tick }
      plan := { s.plan with pass := s.plan.pass.tick }
      builder := { s.builder with timer := s.builder.timer.tick }
      session := { s.session with timer := s.session.timer.tick }
      agent := { s.agent with resetPending := s.agent.resetPending.map fun r => { r with remaining := r.remaining - 1 } } }

end Sys2Proof.Machine
end

