-- ==== Sys2Proof/Machine/Timers.lean ====
section
/-! DEFINITION. The meanings of the scrubber's and the reporting timers' commands: scrub wait and pass end (R60, R61, R63), storage disturbance (R61), report interval (R124) and retransmit timer (R147). -/

namespace Sys2Proof.Machine

/-! ### The plan scrubber (3.4) -/

/-- SCRUB_WAIT_EXPIRY (R60): the wait has lasted its 100 ms, and a new pass begins over the active bank. -/
def execScrubWaitExpiry (s : State) : Result :=
  match s.plan.pass with
  | .waiting left => occurs (decide (left = 0)) s (s.onPlan fun p => { p with pass := .running 0 crc32Init })
  | .running _ _ => .next s
  | .stopped => .next s

/-- The check a pass computes: its running check over what it read before, folded on over the rest of the active bank as
stored now (R61). -/
def passCheck (p : PlanStore) (position : Nat) (check : Word) : Word :=
  ~~~ crc32Run check ((serialize p.active.contents).drop position)

/-- A mismatch faults the plan (R63): FAULTED, PLAN_FAULT posted, the metering queue emptied with counts, the scrubber
stopped. -/
def faultPlan (computed : Word) (s : State) : State :=
  let s1 := post .planFault 0 computed (s.onPart fun p => { p with state := .faulted })
  (s1.onEngine fun e =>
    { e with queue := [],
             counters := { e.counters with
               notMeteredPart := e.counters.notMeteredPart + BitVec.ofNat 32 e.queue.length } }).onPlan
    fun p => { p with pass := .stopped }

/-- SCRUB_PASS_END (R61): a match counts a pass and starts the wait; a mismatch faults the plan. -/
def execScrubPassEnd (s : State) : Result :=
  match s.plan.pass with
  | .running position check =>
    if passCheck s.plan position check = s.plan.active.check then
      .next (s.onPlan fun p => { p with pass := .waiting Config.scrubWait, passes := p.passes + 1 })
    else .next (faultPlan (passCheck s.plan position check) s)
  | .waiting _ => .next s
  | .stopped => .next s

/-- The scrubber's pass just before a disturbance: it had read this many octets of the bank as then stored, never fewer
than it had read before (R61, assumption log 3). -/
def advancePass (p : PlanStore) (octetsRead : Nat) : PassState :=
  match p.pass with
  | .running position check =>
    let upTo := max position (min octetsRead (serialize p.active.contents).length)
    .running upTo (crc32Run check (((serialize p.active.contents).drop position).take (upTo - position)))
  | .waiting r => .waiting r
  | .stopped => .stopped

/-- STORAGE_DISTURBANCE (R61): the active bank's stored contents and header check become these; a pass in progress keeps
what it has read. Contents that no bank holds (R38) are no disturbance (assumption log 3). -/
def execStorageDisturbance (contents : PlanContents) (check : Word) (octetsRead : Nat) (s : State) : Result :=
  occurs (contentsWf contents) s (s.onPlan fun p =>
    { p with pass := advancePass p octetsRead, active := { p.active with contents := contents, check := check } })

/-! ### Reporting timers -/

/-- INTERVAL_TIMER_EXPIRY (R124): the remaining time is zero; the timer restarts with the report interval then set, and the builder receives an
interval trigger (R125). -/
def execIntervalTimerExpiry (s : State) : Result :=
  occurs (expires s.builder.timer) s
    (trigger ⟨true, false, false⟩ (s.onBuilder fun b => { b with timer := some (1000 * b.interval) }))

/-- The expiry of the retransmit timer in OPEN (R147): HOLD at the retry limit, otherwise a go-back. -/
def retransmitExpiry (s : State) : State :=
  let s1 := s.onSession fun q =>
    { q with timer := none, retransmitTimeouts := q.retransmitTimeouts + 1, timeouts := q.timeouts + 1 }
  if s.session.retry ≤ s.session.timeouts + 1 then enterHold .noAck s1
  else s1.onSession fun q => { q with queue := markResend q.queue }

/-- RETRANSMIT_TIMER_EXPIRY (R147): the remaining time is zero, in OPEN, where alone the timer runs. An ACK that was taken
first and retired a record has restarted or stopped the timer, and then the expiry does not happen. -/
def execRetransmitTimerExpiry (s : State) : Result :=
  occurs (expires s.session.timer && decide (s.session.state = .open_)) s (retransmitExpiry s)

end Sys2Proof.Machine
end

