-- ==== Sys2Proof/Machine/Dispatch.lean ====
section
/-! DEFINITION. One arm per command of the table, each a direct call of its meaning. -/

namespace Sys2Proof.Machine

/-- A command's effect on everything but the queue of waiting commands. -/
def exec (i : Instr) (s : State) : Host.Outcome State Fault Refusal :=
  match i with
  | .signalReturn p => Sys2Proof.Machine.execSignalReturn p s
  | .linkUp p => Sys2Proof.Machine.execLinkUp p s
  | .signalLoss p => Sys2Proof.Machine.execSignalLoss p s
  | .breakOnset p => Sys2Proof.Machine.execBreakOnset p s
  | .breakRelease p signal => Sys2Proof.Machine.execBreakRelease p signal s
  | .breakTimerExpiry => Sys2Proof.Machine.execBreakTimerExpiry s
  | .frameStart p => Sys2Proof.Machine.execFrameStart p s
  | .giantFrame p => Sys2Proof.Machine.execGiantFrame p s
  | .frameEnd p => Sys2Proof.Machine.execFrameEnd p s
  | .fieldTransmitBegin => Sys2Proof.Machine.execFieldTransmitBegin s
  | .headTransmitChoice => Sys2Proof.Machine.execHeadTransmitChoice s
  | .transmissionComplete p => Sys2Proof.Machine.execTransmissionComplete p s
  | .syncTimerExpiry => Sys2Proof.Machine.execSyncTimerExpiry s
  | .frameBegin => Sys2Proof.Machine.execFrameBegin s
  | .unmappedSample => Sys2Proof.Machine.execUnmappedSample s
  | .voltageSample => Sys2Proof.Machine.execVoltageSample s
  | .currentSample => Sys2Proof.Machine.execCurrentSample s
  | .frameMetered => Sys2Proof.Machine.execFrameMetered s
  | .epochFlush => Sys2Proof.Machine.execEpochFlush s
  | .commitBoundary => Sys2Proof.Machine.execCommitBoundary s
  | .builderTake => Sys2Proof.Machine.execBuilderTake s
  | .ackRelease => Sys2Proof.Machine.execAckRelease s
  | .sessionRestore => Sys2Proof.Machine.execSessionRestore s
  | .circuitReadClaim => Sys2Proof.Machine.execCircuitReadClaim s
  | .referenceReadClaim => Sys2Proof.Machine.execReferenceReadClaim s
  | .meteringClearClaim => Sys2Proof.Machine.execMeteringClearClaim s
  | .scrubWaitExpiry => Sys2Proof.Machine.execScrubWaitExpiry s
  | .scrubPassEnd => Sys2Proof.Machine.execScrubPassEnd s
  | .intervalTimerExpiry => Sys2Proof.Machine.execIntervalTimerExpiry s
  | .retransmitTimerExpiry => Sys2Proof.Machine.execRetransmitTimerExpiry s
  | .unknownCommand => Sys2Proof.Machine.execUnknownCommand s
  | .statusRead => Sys2Proof.Machine.execStatusRead s
  | .countersRead => Sys2Proof.Machine.execCountersRead s
  | .planClear => Sys2Proof.Machine.execPlanClear s
  | .planCopy => Sys2Proof.Machine.execPlanCopy s
  | .streamLoad => Sys2Proof.Machine.execStreamLoad s
  | .streamRemove => Sys2Proof.Machine.execStreamRemove s
  | .circuitLoad => Sys2Proof.Machine.execCircuitLoad s
  | .referenceLoad => Sys2Proof.Machine.execReferenceLoad s
  | .planRead => Sys2Proof.Machine.execPlanRead s
  | .planCommit => Sys2Proof.Machine.execPlanCommit s
  | .sessionOpen => Sys2Proof.Machine.execSessionOpen s
  | .sessionClose => Sys2Proof.Machine.execSessionClose s
  | .reportConfig => Sys2Proof.Machine.execReportConfig s
  | .reportFlush => Sys2Proof.Machine.execReportFlush s
  | .circuitRead => Sys2Proof.Machine.execCircuitRead s
  | .referenceRead => Sys2Proof.Machine.execReferenceRead s
  | .eventConfig => Sys2Proof.Machine.execEventConfig s
  | .meteringClear => Sys2Proof.Machine.execMeteringClear s
  | .partReset => Sys2Proof.Machine.execPartReset s
  | .partResetDeadline => Sys2Proof.Machine.execPartResetDeadline s
  | .supplyFail => Sys2Proof.Machine.execSupplyFail s
  | .supplyGood straps => Sys2Proof.Machine.execSupplyGood straps s
  | .bypassBreakRelease signal straps => Sys2Proof.Machine.execBypassBreakRelease signal straps s
  | .commandBypassEnd straps => Sys2Proof.Machine.execCommandBypassEnd straps s
  | .selfCheckEnd passed => Sys2Proof.Machine.execSelfCheckEnd passed s
  | .frameOctet p octet => Sys2Proof.Machine.execFrameOctet p octet s
  | .storageDisturbance contents check octetsRead => Sys2Proof.Machine.execStorageDisturbance contents check octetsRead s

end Sys2Proof.Machine
end

