-- ==== Sys2Proof/Machine/Step.lean ====
section
/-! DEFINITION. One step: the command at the front of the queue is executed; with none waiting, a millisecond passes. -/

namespace Sys2Proof.Machine

/-- The block takes the command at the front of its queue and executes it with the rest of the queue. On an empty queue
one millisecond passes (R188; assumption log 6). -/
def step (s : State) : Host.Outcome State Fault Refusal :=
  match s.pending with
  | [] => .next (millisecond s)
  | c :: rest => exec c { s with pending := rest }

/-- The command a word spells is put at the front of the queue. No word spells one (Decode.lean), so the state stays. -/
def State.withFetchWord (s : State) (nbits w : Nat) : State :=
  match decodeTableWord nbits w with
  | some c => { s with pending := c :: s.pending }
  | none => s

end Sys2Proof.Machine
end

