-- ==== Sys2Proof/Safety.lean ====
section
/-! DEFINITION. What the claims about the part speak of: the invariants that the rules give every state, and the conditions under which a queued command reaches its owner. -/

namespace Sys2Proof.Machine

/-! ### Capacities and shapes -/

/-- No block holds more than its rule gives it places for: forward buffers (R11, R12), metering queue (R28), report queue
(R121), closing list (R132), command and response queues (R156, R161), event queue (R174), rings (R65) and park queues
(R87); and every circuit and reference is present. -/
structure Capacities (s : State) : Prop where
  up : s.links.up.length ≤ 4
  down : s.links.down.length ≤ 4
  metering : s.engine.queue.length ≤ 8
  reports : s.session.queue.length ≤ 16
  closings : s.builder.closings.length ≤ 8
  commands : s.agent.queue.length ≤ 4
  responses : s.agent.responses.length ≤ 4
  events : s.events.queue.length ≤ 32
  circuits : s.circuits.length = 96
  references : s.refs.length = 16
  parks : ∀ x ∈ s.circuits, x.park.length ≤ 8
  rings : ∀ q ∈ s.refs, q.ring.length ≤ 32

/-- Both plan banks keep the shape of R37 and R38. -/
def PlanBanksWf (s : State) : Prop :=
  contentsWf s.plan.active.contents = true ∧ contentsWf s.plan.shadow.contents = true

/-! ### Scan order -/

/-- Each scan number is older than the one after it (R65). -/
def scansAscend : List Half → Prop
  | [] => True
  | [_] => True
  | a :: b :: rest => older a b = true ∧ scansAscend (b :: rest)

/-- Distinct scan numbers in ascending order (R65, R87). -/
def ScansOrdered (l : List Half) : Prop := l.Nodup ∧ scansAscend l

/-- Every history ring and every park queue holds distinct scan numbers in ascending order (R65, R87). -/
def ScansInOrder (s : State) : Prop :=
  (∀ q ∈ s.refs, ScansOrdered (q.ring.map RingSample.scan)) ∧
    ∀ x ∈ s.circuits, ScansOrdered (x.park.map Parked.scan)

/-! ### Timers and the scrubber -/

/-- Where each timer runs: the sync timer in LOCKED and HOLDOVER (2.2), the interval timer while the session is OPEN or
in HOLD (R124), the retransmit timer in OPEN alone (R138); and a hold cause stands exactly in HOLD (R148, R149). -/
structure TimersFit (s : State) : Prop where
  sync : s.sync.timer.isSome = true ↔ s.sync.state = .locked ∨ s.sync.state = .holdover
  interval : s.sync.interval = none ↔ s.sync.state = .none
  report : s.builder.timer.isSome = true ↔ s.session.state ≠ .closed
  retransmit : s.session.timer.isSome = true → s.session.state = .open_
  hold : s.session.cause = .none ↔ s.session.state ≠ .hold

/-- The scrubber is STOPPED exactly outside METERING (R60). -/
def ScrubberFits (s : State) : Prop := s.plan.pass = .stopped ↔ s.part.state ≠ .metering

/-! ### The report queue -/

/-- The report queue (R121, R138): sequences are consecutive and end just before the next sequence, every record carries
the current session id, a CLOSED session has no id, no highest sent and no record, and a TALLY in transmission that names a
record names one of the queue (R142, R153). -/
structure QueueFits (s : State) : Prop where
  consecutive : s.session.queue.map Record.sequence =
    (List.range s.session.queue.length).map fun i => s.session.next - BitVec.ofNat 16 (s.session.queue.length - i)
  ids : ∀ r ∈ s.session.queue, s.session.id = some r.session
  held : s.session.id = none ↔ s.session.state = .closed
  closed : s.session.state = .closed → s.session.queue = [] ∧ s.session.highest = none
  sent : ∀ seq again octets, s.links.headTx = some ⟨.tally (some seq) again, octets⟩ →
    ∃ r ∈ s.session.queue, r.sequence = seq

/-- No two closing entries name the same circuit (R132). -/
def ClosingsDistinct (s : State) : Prop := (s.builder.closings.map Closing.circuit).Nodup

/-! ### The account of units -/

/-- The units of one circuit and direction that a list of UNITS entries names. -/
def unitsOfPair (c : Fin 96) (d : Direction) (us : List UnitsRef) : Nat :=
  (us.map fun u => if u.circuit = c ∧ u.direction = d then u.units else 0).sum

/-- The UNITS entries that a waiting claim releases or restores (R145, R151). -/
def claimUnits : Claim → List UnitsRef
  | .ackRelease us => us
  | .sessionRestore us => us
  | .commitBoundary _ => []
  | .epochFlush => []
  | .builderTake => []
  | .circuitRead _ => []
  | .referenceRead _ => []
  | .meteringClear => []

/-- The account of in-flight units: for every circuit and direction they are the units in the UNITS entries of the report
queue plus the units of ack release and session restore claims still waiting (R99, R145, R151). The other parts say what
keeps METERING_CLEAR from losing them (R104): while its claim waits, it is the only one, its command is held, the session
is CLOSED with an empty queue, and no claim behind it names units. -/
structure UnitsBalance (s : State) : Prop where
  circuits : s.circuits.length = 96
  inFlight : ∀ c d, ((s.circ c).dir d).inFlight =
    unitsOfPair c d (unitsOf s.session.queue) + unitsOfPair c d (s.engine.claims.flatMap claimUnits)
  closed : s.session.state = .closed → s.session.queue = []
  clear : ∀ before after, s.engine.claims = before ++ .meteringClear :: after →
    s.session.state = .closed ∧ s.agent.held = some .meteringClear ∧ after.flatMap claimUnits = [] ∧
      Claim.meteringClear ∉ before ∧ Claim.meteringClear ∉ after

/-- Pending units plus in-flight units never exceed the owed cap (R85). -/
def OwedWithinCap (s : State) : Prop := ∀ c d, ((s.circ c).dir d).owed ≤ 16777215

/-- The accumulators, saturation losses and floor-discarded totals stay within 48 bits (R92, R112). -/
def EnergyWithinBounds (s : State) : Prop :=
  ∀ c d, ((s.circ c).dir d).accumulator ≤ 281474976710655 ∧ ((s.circ c).dir d).satLoss ≤ 281474976710655 ∧
    ((s.circ c).dir d).floorDiscarded ≤ 281474976710655

/-! ### Part states -/

/-- A part in PASSIVE keeps its reset values (R189): sync monitor, engine, circuits, references, builder, session, agent,
event queue and shadow bank are as a full reset left them, no pass runs, and Head transmit carries forwarded frames
alone. -/
structure PassiveKeeps (s : State) : Prop where
  state : s.part.state = .passive
  sync : s.sync = .reset
  engine : s.engine = .reset
  circuits : s.circuits = List.replicate 96 .cleared
  refs : s.refs = List.replicate 16 .reset
  shadow : s.plan.shadow = emptyBank
  pass : s.plan.pass = .stopped ∧ s.plan.passes = 0
  builder : s.builder = .reset
  session : s.session = .reset
  agent : s.agent = .reset
  events : s.events = .reset
  headTx : ∀ tx ∈ s.links.headTx, tx.source = .forward

/-- A part in DEFECT with no commit boundary claim waiting (R190). -/
def DefectHolds (s : State) : Prop :=
  s.part.state = .defect ∧ ∀ check, Claim.commitBoundary check ∉ s.engine.claims

/-! ### A full reset -/

/-- What a full reset leaves (R5, R20, R29, R30, R37, R60, R65, R68, R80, R84, R123, R135, R137, R154, R155, R172, R181,
R184, R188). Only the receive lines outside and the waiting commands stay. -/
structure FullyReset (cause : ResetCause) (s t : State) : Prop where
  state : t.part.state = .bypass
  bypass : t.part.bypassTimer = if cause = .command then some 1 else none
  cause : t.part.cause = cause
  counter : t.part.ms = 0
  tap : t.part.tap = 0
  selfCheck : t.part.selfCheckPassed = true
  relay : t.part.relayDrive = false
  field : t.links.field = ⟨.down, s.links.field.line, none, .idle, ⟨0, 0, 0, 0, 0, 0, 0, 0, 0, 0⟩⟩
  head : t.links.head = ⟨.down, s.links.head.line, none, .idle, ⟨0, 0, 0, 0, 0, 0, 0, 0, 0, 0⟩⟩
  links : t.links.breakTimer = none ∧ t.links.up = [] ∧ t.links.down = [] ∧ t.links.fieldTx = false ∧
    t.links.headTx = none ∧ t.links.lastServed = .own
  sync : t.sync = ⟨.none, 0, 0, none, none, 0, 0⟩
  engine : t.engine = ⟨[], none, [], 0, ⟨0, 0, 0, 0, 0, 0, 0⟩⟩
  circuits : t.circuits = List.replicate 96
    ⟨⟨0, 0, 0, 0, false, false, false, 0, 0, 0⟩, ⟨0, 0, 0, 0, false, false, false, 0, 0, 0⟩, 0, .active, [], 0, 0, 0, 0, 0⟩
  references : t.refs = List.replicate 16 ⟨[], ⟨.idle, none, false, none, 0, 0, 0, 0, 0, 0, 0⟩, 0, 0, 0, 0⟩
  banks : t.plan = ⟨⟨emptyContents, 0, planCheck emptyContents⟩, ⟨emptyContents, 0, planCheck emptyContents⟩, .stopped, 0⟩
  builder : t.builder = ⟨0, none, 0, none, 10, 4096, [], 0, 0, 0⟩
  session : t.session = ⟨.closed, none, 0, none, none, 0, .none, 6, 500, [], 0, 0, 0, 0, 0, 0, 0⟩
  agent : t.agent.queue = [] ∧ t.agent.held = none ∧ t.agent.responses = [] ∧ t.agent.retained = none ∧
    t.agent.waiting = none ∧ t.agent.resetPending = none ∧ t.agent.malformed = 0 ∧ t.agent.overruns = 0 ∧
    t.agent.duplicates = 0 ∧ t.agent.repeated = 0 ∧ t.agent.broadcastsIgnored = 0
  events : t.events = ⟨[], 0, 0x0007FFFF, 0⟩
  pending : t.pending = s.pending

/-! ### Ports and transmissions -/

/-- What Head transmit is sending, by its source (R13). -/
def headSource (s : State) : Option HeadSource := s.links.headTx.map HeadTx.source

/-- The counters of a port that leaves UP (R2, R6, R13): one link-down, one aborted reception when a frame was in
reception, one aborted transmission when a frame was in transmission. -/
def countersOnLeaving (transmitting : Bool) (q : Port) : PortCounters :=
  { q.counters with
    linkDowns := q.counters.linkDowns + 1
    abortedReceptions := match q.reception with
      | .assembling _ => q.counters.abortedReceptions + 1
      | .idle => q.counters.abortedReceptions
      | .skipping => q.counters.abortedReceptions
    abortedTransmissions :=
      if transmitting then q.counters.abortedTransmissions + 1 else q.counters.abortedTransmissions }

/-! ### A command that reaches its owner -/

/-- The command c, of code k and addressed to this tap, begins execution and passes the agent's four checks (R159,
R160). -/
structure Admitted (k : CommandCode) (c : Command) (s : State) : Prop where
  begins : beginning s = some c
  code : c.code = commandOctet k
  addressed : c.broadcast = none
  length : lengthOk k c.args = true
  state : s.part.state ≠ .defect ∨ k = .statusRead
  ranges : agentRangeFailure k c.args = none

/-- A broadcast of code k begins execution (R158, R159). -/
structure AdmittedBroadcast (k : CommandCode) (c : Command) (number : Nat) (fate : CopyFate) (s : State) : Prop where
  begins : beginning s = some c
  code : c.code = commandOctet k
  broadcast : c.broadcast = some (number, fate)

/-- The next sample of the frame in metering is d, metered under the plan p (R31, R32). -/
def NextSample (p : PlanContents) (d : DueSample) (s : State) : Prop := nextSample s = some (p, d)

end Sys2Proof.Machine
end

