-- ==== Sys2Proof/Certificates/Slice0/Obligations.lean ====
section
/-! DEFINITION. The statements for the provers, in the order of the chapters. -/

section

open Sys2Proof Sys2Proof.Machine

/-! ### The block and its queue -/

/-- A step takes the command at the front of the queue and executes it with the rest of the queue. -/
def Obligations.StepRunsTheFrontCommand : Prop :=
  ∀ (c : Instr) (rest : List Instr) (s : State), s.pending = c :: rest → step s = exec c { s with pending := rest }

/-- Every command answers a next state in every state, and none touches the queue of waiting commands; that an event which
cannot occur answers the state itself is the model's choice (assumption log 1). On an empty queue a millisecond passes
(R188; assumption log 6, the model's choice), and a timer stays at 0 until its expiry is taken: outside BYPASS the counter rises and every running
timer and measure moves; in BYPASS only the 1 ms of a COMMAND bypass is timed (R184). -/
def Obligations.CommandsAnswerAndAMillisecondPasses : Prop :=
  (∀ (i : Instr) (s : State), ∃ t, exec i s = .next t ∧ t.pending = s.pending) ∧
  (∀ s : State, s.pending = [] →
     (s.part.state = .bypass →
       step s = .next { s with part := { s.part with bypassTimer := s.part.bypassTimer.map fun n => n - 1 } }) ∧
     (s.part.state ≠ .bypass → ∃ t, step s = .next t ∧
       t.part = { s.part with ms := s.part.ms + 1 } ∧
       t.links = { s.links with
         field := { s.links.field with qualified := s.links.field.qualified.map fun n => n + 1 }
         head := { s.links.head with qualified := s.links.head.qualified.map fun n => n + 1 }
         breakTimer := s.links.breakTimer.map fun n => n + 1 } ∧
       t.sync = { s.sync with timer := s.sync.timer.map fun n => n - 1 } ∧
       t.builder = { s.builder with timer := s.builder.timer.map fun n => n - 1 } ∧
       t.session = { s.session with timer := s.session.timer.map fun n => n - 1 } ∧
       (∀ r, s.plan.pass = .waiting r → t.plan = { s.plan with pass := .waiting (r - 1) }) ∧
       ((∀ r, s.plan.pass ≠ .waiting r) → t.plan = s.plan) ∧
       (∀ r, s.agent.resetPending = some r →
         t.agent = { s.agent with resetPending := some { r with remaining := r.remaining - 1 } }) ∧
       (s.agent.resetPending = none → t.agent = s.agent) ∧
       t.engine = s.engine ∧ t.circuits = s.circuits ∧ t.refs = s.refs ∧ t.events = s.events ∧ t.pending = s.pending))

/-! ### Start-up and part state (chapter 11) -/

/-- The three resets leave the full-reset values: SUPPLY_FAIL in any state (R182), BREAK_TIMER_EXPIRY when a break has
lasted 40 ms with the Head port in BREAK (R4), PART_RESET_DEADLINE when 10 ms have passed with a reset pending (R171).
A COMMAND bypass then has its 1 ms to run (R184), a POWER or BREAK bypass no time of its own.
Before those moments the two expiries do not happen. That the receive lines and the waiting commands stay through a reset,
and that an event which does not happen leaves the state, are the model's choices (assumption log 2, 1). -/
def Obligations.ResetsLeaveTheFullResetValues : Prop :=
  ∀ s : State,
    (∃ t, exec .supplyFail s = .next t ∧ FullyReset .power s t) ∧
    (∀ n, s.links.breakTimer = some n →
      (s.links.head.state = .break_ → 40 ≤ n → ∃ t, exec .breakTimerExpiry s = .next t ∧ FullyReset .break_ s t) ∧
      (n < 40 → exec .breakTimerExpiry s = .next s)) ∧
    (s.links.breakTimer = none → exec .breakTimerExpiry s = .next s) ∧
    (∀ left copyOf, s.agent.resetPending = some ⟨left, copyOf⟩ →
      (left = 0 → ∃ t, exec .partResetDeadline s = .next t ∧ FullyReset .command s t) ∧
      (left ≠ 0 → exec .partResetDeadline s = .next s))

/-- Each event that ends a BYPASS ends the BYPASS of its own cause alone (R182, R183, R184), a COMMAND bypass when its 1 ms
has passed; elsewhere it leaves the state (assumption log 1). The part enters STARTING with the straps read and the millisecond counter at 0. The end of the self-check (R186, R187): PASSIVE for straps 0 and 31,
else DEFECT or IDLE by the result; the relay opens the bypass; each port begins with what its line carries; STARTED is
the first event, except into PASSIVE. -/
def Obligations.BypassEndsAndThePartStarts : Prop :=
  (∀ (straps : BitVec 5) (signal : Bool) (s : State),
     (s.part.state = .bypass → s.part.cause = .power → exec (.supplyGood straps) s =
       .next { s with part := { s.part with state := .starting, tap := straps, ms := 0, bypassTimer := none } }) ∧
     (s.part.state = .bypass → s.part.cause = .break_ → exec (.bypassBreakRelease signal straps) s =
       .next { s with
         part := { s.part with state := .starting, tap := straps, ms := 0, bypassTimer := none }
         links := { s.links with head := { s.links.head with line := if signal then .signal else .noSignal } } }) ∧
     (s.part.state = .bypass → s.part.cause = .command → s.part.bypassTimer = some 0 → exec (.commandBypassEnd straps) s =
       .next { s with part := { s.part with state := .starting, tap := straps, ms := 0, bypassTimer := none } }) ∧
     (s.part.state ≠ .bypass ∨ s.part.cause ≠ .power → exec (.supplyGood straps) s = .next s) ∧
     (s.part.state ≠ .bypass ∨ s.part.cause ≠ .break_ → exec (.bypassBreakRelease signal straps) s = .next s) ∧
     (s.part.state ≠ .bypass ∨ s.part.cause ≠ .command ∨ s.part.bypassTimer ≠ some 0 →
       exec (.commandBypassEnd straps) s = .next s)) ∧
  (∀ (passed : Bool) (s : State), s.part.state = .starting → s.events = ⟨[], 0, 0x0007FFFF, 0⟩ →
     ∃ t, exec (.selfCheckEnd passed) s = .next t ∧
       t.part = { s.part with
         state := if s.part.tap.toNat = 0 ∨ s.part.tap.toNat = 31 then .passive else if passed then .idle else .defect
         selfCheckPassed := passed
         relayDrive := true } ∧
       (t.part.state = .passive → t.events = s.events) ∧
       (t.part.state ≠ .passive → t.events =
         { s.events with queue := [⟨.started, 0, 0, s.part.ms,
           (causeCode s.part.cause).setWidth 32 + (if passed then 0 else 256), false⟩] }) ∧
       (∀ p, ((s.port p).line = .noSignal → t.port p = s.port p) ∧
         ((s.port p).line = .signal → t.port p = { s.port p with qualified := some 0 }) ∧
         ((s.port p).line = .break_ → t.port p = { s.port p with
           state := .break_, qualified := none,
           counters := { (s.port p).counters with breaks := (s.port p).counters.breaks + 1 } })) ∧
       t.links = { s.links with
         field := t.links.field, head := t.links.head,
         breakTimer := if s.links.head.line = .break_ then some 0 else s.links.breakTimer } ∧
       t.plan = ⟨emptyBank, emptyBank, .stopped, 0⟩ ∧ t.sync = s.sync ∧ t.engine = s.engine ∧ t.circuits = s.circuits ∧
       t.refs = s.refs ∧ t.builder = s.builder ∧ t.session = s.session ∧ t.agent = s.agent ∧ t.pending = s.pending)

/-! ### Field and Head links (chapter 1) -/

/-- What an ACK received before the Head port lost its link does when it is taken after the loss (R149), and what a frame end
and a loss that fall together do otherwise: the one and then the other. That FRAME_END brings the loss is the model's
choice (assumption log 22), and so are three orders of postings that R175 leaves open (assumption log 25): LINK_DOWN before
REPORT_HOLD, LINK_DOWN before the REPORT_RESUMED of an ACK taken after the loss, and what any other frame posts before the
LINK_DOWN of a loss that falls together with it.
The Field port leaves UP on a loss of signal or a break (R2, R3, R13): the reception is discarded, the frame in
transmission is lost with its place, the counters rise, and LINK_DOWN carries 0 or 1. The Head port leaves UP (R2, R3,
R13, R148): as the Field port; a forwarded frame is lost, a response and a record stay as they were, carried events
wait again, and an OPEN session enters HOLD with cause LINK. What becomes of a broadcast's downstream copy is noted with
the command it belongs to, by the model's number (assumption log 10). -/
def Obligations.PortsLeaveUp : Prop :=
  (∀ (p : PortId) (s ended : State), (s.port p).state = .up → exec (.frameEnd ⟨p, none⟩) s = .next ended →
     let ack (f : Frame) : Prop := p = .head ∧ (s.port p).reception = .assembling f ∧ 6 ≤ f.length ∧ goodFrame f = true ∧
       frameKind f = 0x32 ∧ (frameAddress f).toNat = s.part.tap.toNat ∧ takesIn s.part.state = true
     ((∀ f, ¬ ack f) →
       exec (.frameEnd ⟨p, some .signal⟩) s = exec (.signalLoss p) ended ∧
       exec (.frameEnd ⟨p, some .break_⟩) s = exec (.breakOnset p) ended) ∧
     (∀ f, ack f →
       let received : State := s.onPort .head fun q =>
         { q with reception := .idle, counters := { q.counters with received := q.counters.received + 1 } }
       (∀ lost, exec (.signalLoss .head) received = .next lost →
         exec (.frameEnd ⟨p, some .signal⟩) s = .next (ackFrame (frameBody f) lost)) ∧
       (∀ lost, exec (.breakOnset .head) received = .next lost →
         exec (.frameEnd ⟨p, some .break_⟩) s = .next (ackFrame (frameBody f) lost)))) ∧
  (∀ s : State, s.links.field.state = .up →
     exec (.signalLoss .field) s = .next (post .linkDown 0 0 { s with
       links := { s.links with
         field := ⟨.down, .noSignal, none, .idle, countersOnLeaving s.links.fieldTx s.links.field⟩
         fieldTx := false
         down := if s.links.fieldTx then s.links.down.tail else s.links.down }
       agent := if s.links.fieldTx then (noteCopy (downHeadCopy s) .lost s).agent else s.agent }) ∧
     exec (.breakOnset .field) s = .next (post .linkDown 0 1 { s with
       links := { s.links with
         field := ⟨.break_, .break_, none, .idle, { countersOnLeaving s.links.fieldTx s.links.field with
           breaks := s.links.field.counters.breaks + 1 }⟩
         fieldTx := false
         down := if s.links.fieldTx then s.links.down.tail else s.links.down }
       agent := if s.links.fieldTx then (noteCopy (downHeadCopy s) .lost s).agent else s.agent })) ∧
  (∀ s : State, s.links.head.state = .up →
     let up := if headSource s = some .forward then s.links.up.tail else s.links.up
     let events := if headSource s = some .event then
       { s.events with queue := s.events.queue.map fun r => { r with carried := false } } else s.events
     let held := { s.session with state := .hold, cause := .link, timer := none }
     let lost : State := post .linkDown 1 0 { s with
       links := { s.links with
         head := ⟨.down, .noSignal, none, .idle, countersOnLeaving s.links.headTx.isSome s.links.head⟩
         headTx := none, up := up }
       events := events }
     let broken : State := post .linkDown 1 1 { s with
       links := { s.links with
         head := ⟨.break_, .break_, none, .idle, { countersOnLeaving s.links.headTx.isSome s.links.head with
           breaks := s.links.head.counters.breaks + 1 }⟩
         headTx := none, up := up, breakTimer := some 0 }
       events := events }
     (s.session.state ≠ .open_ → exec (.signalLoss .head) s = .next lost ∧ exec (.breakOnset .head) s = .next broken) ∧
     (s.session.state = .open_ →
       exec (.signalLoss .head) s = .next (post .reportHold (s.session.id.getD 0) 2 { lost with session := held }) ∧
       exec (.breakOnset .head) s = .next (post .reportHold (s.session.id.getD 0) 2 { broken with session := held })))

/-- SIGNAL_RETURN at a port in DOWN without signal (R1): a running port measures from zero, one held in DOWN does not
(R5; assumption log 15). LINK_UP (R1, R149): a port whose measure has reached 1 ms, and none before, enters UP and posts
LINK_UP; a restored Head link returns a session in HOLD
to OPEN with its SENT records marked RESEND, posting REPORT_RESUMED with the base; that LINK_UP comes first, which R175 leaves
open, is the model's choice (assumption log 25). A break at a running port in DOWN,
and the release of a break (R3, R4): BREAK is counted and timed on the Head port; the release discards the timer and
returns the port to DOWN, qualifying from zero if signal follows. A port in DOWN that loses its signal stays there: the
measure is discarded, without LINK_DOWN and without a count (R1, R2). A port held in DOWN (R5) sees only its line change,
and the release that ends a BREAK bypass is not BREAK_RELEASE (assumption log 15). Elsewhere these rows change nothing
(assumption log 1). -/
def Obligations.PortsQualifyBreakAndEnterUp : Prop :=
  (∀ (p : PortId) (s : State), (s.port p).state = .down → (s.port p).line = .noSignal →
     exec (.signalReturn p) s = .next (s.onPort p fun q =>
       { q with line := .signal,
                qualified := if s.part.state = .bypass ∨ s.part.state = .starting then none else some 0 })) ∧
  (∀ (p : PortId) (n : Nat) (s : State), s.part.state ≠ .bypass → s.part.state ≠ .starting →
     (s.port p).state = .down → (s.port p).qualified = some n →
     (n = 0 → exec (.linkUp p) s = .next s) ∧
     (1 ≤ n → (p = .field ∨ s.session.state ≠ .hold) →
       exec (.linkUp p) s = .next (post .linkUp (if p = .field then 0 else 1) 0
         (s.onPort p fun q => { q with state := .up, qualified := none }))) ∧
     (1 ≤ n → p = .head → s.session.state = .hold →
       exec (.linkUp p) s = .next (post .reportResumed (s.session.id.getD 0) (s.session.base.setWidth 32)
         { post .linkUp 1 0 (s.onPort .head fun q => { q with state := .up, qualified := none }) with
           session := { s.session with
             state := .open_, cause := .none, timeouts := 0, timer := none,
             queue := s.session.queue.map fun r => if r.state = .sent then { r with state := .resend } else r } }))) ∧
  (∀ (p : PortId) (s : State),
     (s.part.state ≠ .bypass → s.part.state ≠ .starting → (s.port p).state = .down →
       exec (.breakOnset p) s = .next ((s.onPort p fun q => { q with
         state := .break_, line := .break_, qualified := none,
         counters := { q.counters with breaks := q.counters.breaks + 1 } }).onLinks fun l =>
           { l with breakTimer := if p = .head then some 0 else l.breakTimer })) ∧
     ((s.port p).state = .break_ → ∀ signal,
       exec (.breakRelease p signal) s = .next ((s.onPort p fun q => { q with
         state := .down, line := if signal then .signal else .noSignal,
         qualified := if signal then some 0 else none }).onLinks fun l =>
           { l with breakTimer := if p = .head then none else l.breakTimer }))) ∧
  (∀ (p : PortId) (s : State),
     let held := s.part.state = .bypass ∨ s.part.state = .starting
     let lineBreaks := (s.port p).state = .down ∧ (s.port p).line = .break_ ∧ held ∧
       ¬ (p = .head ∧ s.part.state = .bypass ∧ s.part.cause = .break_)
     ((s.port p).state = .down → (s.port p).line = .signal →
       exec (.signalLoss p) s = .next (s.onPort p fun q => { q with line := .noSignal, qualified := none })) ∧
     ((s.port p).state = .down → (s.port p).line ≠ .signal → exec (.signalLoss p) s = .next s) ∧
     ((s.port p).state = .break_ → exec (.signalLoss p) s = .next s ∧ exec (.breakOnset p) s = .next s) ∧
     ((s.port p).state ≠ .down ∨ (s.port p).line ≠ .noSignal → exec (.signalReturn p) s = .next s) ∧
     ((s.port p).state ≠ .down ∨ (s.port p).qualified = none ∨ held → exec (.linkUp p) s = .next s) ∧
     ((s.port p).state = .down → held →
       exec (.breakOnset p) s = .next (s.onPort p fun q => { q with line := .break_, qualified := none })) ∧
     (∀ signal, (lineBreaks → exec (.breakRelease p signal) s =
         .next (s.onPort p fun q => { q with line := if signal then .signal else .noSignal })) ∧
       ((s.port p).state ≠ .break_ → ¬ lineBreaks → exec (.breakRelease p signal) s = .next s)))

/-- Assembly of a frame at a port in UP (R6, R7): a frame start discards and counts a frame in reception and begins anew;
octets join up to 1,024; the next one makes a giant, counted and discarded at once, whose remainder is ignored; that it
may be given as either of two rows is read from the table (assumption log 21). The
check of a completed reception (R7): shorter than 6 octets it is a runt; a wrong length or frame check is a check
error; a good frame is counted and goes where its port sends it. A port that is not in UP receives nothing (R1, R3, R5), and
an octet before the 1,025th makes no giant. -/
def Obligations.ReceptionsAreAssembledAndChecked : Prop :=
  (∀ (p : PortId) (octet : Byte) (together : Option LinkLoss) (s : State),
     ((s.port p).state ≠ .up → exec (.frameStart p) s = .next s ∧ exec (.frameOctet p octet) s = .next s ∧
       exec (.giantFrame p) s = .next s ∧ exec (.frameEnd ⟨p, together⟩) s = .next s) ∧
     ((∀ octets, (s.port p).reception = .assembling octets → octets.length ≠ 1024) → exec (.giantFrame p) s = .next s)) ∧
  (∀ (p : PortId) (octet : Byte) (octets : List Byte) (s : State), (s.port p).state = .up →
     exec (.frameStart p) s = .next (s.onPort p fun q => { q with
       reception := .assembling []
       counters := { q.counters with abortedReceptions := match q.reception with
         | .assembling _ => q.counters.abortedReceptions + 1
         | .idle => q.counters.abortedReceptions
         | .skipping => q.counters.abortedReceptions } }) ∧
     ((s.port p).reception = .assembling octets → octets.length < 1024 →
       exec (.frameOctet p octet) s = .next (s.onPort p fun q => { q with reception := .assembling (octets ++ [octet]) })) ∧
     ((s.port p).reception = .assembling octets → octets.length = 1024 →
       exec (.giantFrame p) s = .next (s.onPort p fun q => { q with
         reception := .skipping, counters := { q.counters with giants := q.counters.giants + 1 } }) ∧
       exec (.frameOctet p octet) s = exec (.giantFrame p) s) ∧
     ((s.port p).reception = .skipping ∨ (s.port p).reception = .idle →
       exec (.frameOctet p octet) s = .next s ∧ exec (.frameEnd ⟨p, none⟩) s = .next s)) ∧
  (∀ (p : PortId) (octets : List Byte) (s : State),
     (s.port p).state = .up → (s.port p).reception = .assembling octets →
     (octets.length < 6 → exec (.frameEnd ⟨p, none⟩) s = .next (s.onPort p fun q =>
       { q with reception := .idle, counters := { q.counters with runts := q.counters.runts + 1 } })) ∧
     (6 ≤ octets.length → goodFrame octets = false → exec (.frameEnd ⟨p, none⟩) s = .next (s.onPort p fun q =>
       { q with reception := .idle, counters := { q.counters with checkErrors := q.counters.checkErrors + 1 } })) ∧
     (6 ≤ octets.length → goodFrame octets = true →
       exec (.frameEnd ⟨p, none⟩) s = .next (goodArrival p octets (s.onPort p fun q =>
         { q with reception := .idle, counters := { q.counters with received := q.counters.received + 1 } }))))

/-- What a good frame is (R7, R191): its count of octets is 6 plus its body length field, octets 2 and 3, and the CRC-16
over all but its last two octets is those two. The CRC-16 (R191), bit by bit as the rule says it, and the CRC-32 of a plan
check (R198), with each octet's bits taken from the least significant. What a plan's check is computed over (R198): the
count of streams, each stream's node, channel, role and index (0 for IGNORE), and the records of the circuits and of the
references, octet by octet. A frame the part builds is good and gives back
its kind, address and body. -/
def Obligations.GoodFramesAndBuiltFrames : Prop :=
  (∀ f : Frame, 6 ≤ f.length → (goodFrame f = true ↔
    f.length = 6 + (f.getD 2 0).toNat * 256 + (f.getD 3 0).toNat ∧
    (crc16 (f.take (f.length - 2))).toNat = (f.getD (f.length - 2) 0).toNat * 256 + (f.getD (f.length - 1) 0).toNat)) ∧
  (∀ l : List Byte,
    crc16 l = l.foldl (fun (q : Half) b => (List.range 8).foldl (fun (r : Half) i =>
      if r.getMsbD 0 ≠ b.getMsbD i then (r <<< 1) ^^^ 0x1021 else r <<< 1) q) 0xFFFF ∧
    crc32 l = ~~~ l.foldl (fun (q : Word) b => (List.range 8).foldl (fun (r : Word) i =>
      if r.getLsbD 0 ≠ b.getLsbD i then (r >>> 1) ^^^ 0xEDB88320 else r >>> 1) q) 0xFFFFFFFF) ∧
  (∀ p : PlanContents,
    let flag (b : Bool) : Byte := if b then 1 else 0
    planCheck p = crc32 (serialize p) ∧
    serialize p = be 2 p.streams.length ++
      (p.streams.flatMap fun e => be 1 e.node.val ++ be 1 e.channel.val ++ match e.target with
        | .voltage r => 0 :: be 1 r.val
        | .current c => 1 :: be 1 c.val
        | .ignore => [2, 0]) ++
      (p.circuits.flatMap fun r => flag r.enabled :: be 4 r.account.toNat ++ be 1 r.reference.val ++
        [if r.polarity = .normal then 0 else 1] ++ be 2 r.gain.toNat ++ be 2 r.offset.toNat ++ be 6 r.quantum.toNat ++
        [r.divisor, r.acceleration, if r.select = .imp then 0 else if r.select = .exp then 1 else 2, flag r.floorEnable] ++
        be 2 r.floorStep.toNat ++ be 6 r.floorLimit.toNat) ++
      (p.references.flatMap fun r => [flag r.enabled, flag r.censusEnable] ++ be 2 r.zeroOffset.toNat ++
        be 2 r.bandMin.toNat ++ be 2 r.bandMax.toNat) ∧
    (p.circuits.length = 96 → p.references.length = 16 → (serialize p).length = 2 + 4 * p.streams.length + 2784 + 128)) ∧
  ∀ (kind address : Byte) (body : List Byte), body.length ≤ 65535 →
    goodFrame (buildFrame kind address body) = true ∧ (buildFrame kind address body).length = 6 + body.length ∧
    frameKind (buildFrame kind address body) = kind ∧ frameAddress (buildFrame kind address body) = address ∧
    frameBody (buildFrame kind address body) = body

/-- A good frame from the Field port (R8, R10, R11): offered upstream, where it is dropped and counted when 4 frames wait;
where the part takes frames, a SAMPLE frame is offered for metering all the same. A good frame from the Head port (R9,
R10, R12): SYNC to the sync monitor and downstream; a COMMAND or ACK to this tap to its block and no further; a
broadcast COMMAND both ways; everything else, and in PASSIVE everything, downstream, where it is dropped and counted
when 4 frames wait. The number that ties a broadcast to its copy, and the fate noted with it, are the model's choice
(assumption log 10). -/
def Obligations.GoodFramesGoWhereTheirPortSendsThem : Prop :=
  (∀ (f : Frame) (s : State),
     let offered : State := if s.links.up.length < 4 then { s with links := { s.links with up := s.links.up ++ [f] } }
       else { s with links := { s.links with field := { s.links.field with counters :=
         { s.links.field.counters with forwardOverruns := s.links.field.counters.forwardOverruns + 1 } } } }
     (s.part.state = .passive ∨ frameKind f ≠ 0x10 → goodArrival .field f s = offered) ∧
     (s.part.state = .defect ∨ s.part.state = .idle ∨ s.part.state = .metering ∨ s.part.state = .faulted →
       frameKind f = 0x10 → goodArrival .field f s = acceptSample (frameAddress f) (frameBody f) offered)) ∧
  (∀ (f : Frame) (s : State),
     let offered (copyOf : Option Nat) : State :=
       if s.links.down.length < 4 then { s with links := { s.links with down := s.links.down ++ [⟨f, copyOf⟩] } }
       else { s with links := { s.links with head := { s.links.head with counters :=
         { s.links.head.counters with forwardOverruns := s.links.head.counters.forwardOverruns + 1 } } } }
     let own := (frameAddress f).toNat = s.part.tap.toNat
     (s.part.state = .passive → goodArrival .head f s = offered none) ∧
     (s.part.state = .defect ∨ s.part.state = .idle ∨ s.part.state = .metering ∨ s.part.state = .faulted →
       (frameKind f = 0x20 → goodArrival .head f s = syncFrame (frameBody f) (offered none)) ∧
       (frameKind f = 0x30 → own → goodArrival .head f s = commandFrame none (frameBody f) s) ∧
       (frameKind f = 0x30 → ¬ own → (frameAddress f).toNat = 31 → goodArrival .head f s =
         commandFrame (some (s.agent.nextCopy, if s.links.down.length < 4 then .buffered else .lost)) (frameBody f)
           { offered (some s.agent.nextCopy) with agent := { s.agent with nextCopy := s.agent.nextCopy + 1 } }) ∧
       (frameKind f = 0x30 → ¬ own → (frameAddress f).toNat ≠ 31 → goodArrival .head f s = offered none) ∧
       (frameKind f = 0x32 → own → goodArrival .head f s = ackFrame (frameBody f) s) ∧
       (frameKind f = 0x32 → ¬ own → goodArrival .head f s = offered none) ∧
       (frameKind f ≠ 0x20 → frameKind f ≠ 0x30 → frameKind f ≠ 0x32 → goodArrival .head f s = offered none)))

/-- The arbiter's choice at an idle Head transmit with the Head port in UP (R14, R16, R17, R142, R176): a response first;
then forward and own in turn; a TALLY before an EVENT, with RETRANSMIT as the record is RESEND, and an EVENT with the
first 8 records; and nothing when no class waits, while a
transmission is in progress, or while the port is out of UP (R15). Which record is eligible (R141): in OPEN, the oldest record that is
UNSENT or RESEND, if it lies within 8 places of the base, which is the oldest record's sequence; none in CLOSED and
HOLD. The bodies (R194, R195, R196): octet by octet, of a RESPONSE, of a TALLY with its UNITS and CLOSE entries, and of an
EVENT with its records; a field holds its number modulo its width, so that a partial count above 15, which only a storage
disturbance can bring, runs over in the octet of the two counts (assumption log 17, the model's choice). The codes of the
statuses (R194), of the event kinds (R196) and of the sync status (R197). -/
def Obligations.HeadTransmitServesTheClasses : Prop :=
  (∀ s : State, s.links.headTx ≠ none ∨ s.links.head.state ≠ .up → exec .headTransmitChoice s = .next s) ∧
  (∀ s : State, s.links.headTx = none → s.links.head.state = .up →
     (∀ r rest, s.agent.responses = r :: rest → exec .headTransmitChoice s = .next { s with links := { s.links with
       headTx := some ⟨.response, buildFrame 0x31 (s.part.tap.setWidth 8) (responseBody r.response)⟩ } }) ∧
     (s.agent.responses = [] →
       (∀ f rest, s.links.up = f :: rest →
         s.links.lastServed = .own ∨ (s.session.eligible = none ∧ s.events.queue = []) →
         exec .headTransmitChoice s = .next { s with links := { s.links with
           headTx := some ⟨.forward, f⟩, lastServed := .forward } }) ∧
       (s.links.up = [] ∨ s.links.lastServed = .forward →
         (∀ r, s.session.eligible = some r → exec .headTransmitChoice s = .next { s with links := { s.links with
           headTx := some ⟨.tally (some r.sequence) (decide (r.state = .resend)),
             buildFrame 0x40 (s.part.tap.setWidth 8) (tallyBody r (decide (r.state = .resend)))⟩
           lastServed := .own } }) ∧
         (s.session.eligible = none → s.events.queue ≠ [] → exec .headTransmitChoice s = .next { s with
           links := { s.links with
             headTx := some ⟨.event,
               buildFrame 0x41 (s.part.tap.setWidth 8) (eventBody s.events.lost (s.events.queue.take 8))⟩
             lastServed := .own }
           events := { s.events with queue :=
             (s.events.queue.take 8).map (fun r => { r with carried := true }) ++ s.events.queue.drop 8 } })) ∧
       (s.links.up = [] → s.session.eligible = none → s.events.queue = [] → exec .headTransmitChoice s = .next s))) ∧
  (∀ (q : Session) (r : Record), q.eligible = some r ↔
     q.state = .open_ ∧ ∃ before after, q.queue = before ++ r :: after ∧ (∀ x ∈ before, x.state = .sent) ∧
       r.state ≠ .sent ∧ (r.sequence - ((q.queue.head?.map Record.sequence).getD q.next)).toNat < 8) ∧
  (let bit (b : Bool) (n : Nat) : Nat := if b then n else 0
   (∀ r : Response, responseBody r = r.tag :: r.code :: statusCode r.status :: r.results) ∧
   (∀ (r : Record) (again : Bool), tallyBody r again =
     be 1 (bit again 1) ++ be 2 r.session.toNat ++ be 2 r.sequence.toNat ++ be 1 r.epoch.toNat ++ be 2 r.stamp.toNat ++
       [syncCode r.sync] ++ be 1 r.entries.length ++ r.entries.flatMap fun e => match e with
         | .units u account => be 1 (16 + bit (u.direction == .exp) 4 + bit u.test 2 + bit u.holdover 1) ++
             be 1 u.circuit.val ++ be 2 u.units ++ be 4 account.toNat
         | .close k => be 1 (32 + bit k.test 2 + bit k.holdover 1) ++ be 1 k.circuit.val ++ be 4 k.account.toNat ++
             be 3 k.impUnits ++ be 3 k.expUnits ++ be 1 (k.impPartial * 16 + k.expPartial) ++ be 6 k.impResidue ++
             be 6 k.expResidue ++ be 6 k.quantum.toNat ++ be 1 k.acceleration.toNat) ∧
   (∀ r : Record, (tallyBody r false).length = 10 + (r.entries.map fun e => match e with
     | .units _ _ => 8
     | .close _ => 32).sum) ∧
   (∀ (lost : Nat) (rs : List EventRecord), eventBody lost rs = be 2 lost ++ be 1 rs.length ++ rs.flatMap fun r =>
     be 1 (eventCode r.kind) ++ be 2 r.subject.toNat ++ be 1 r.repeats ++ be 4 r.stamp.toNat ++ be 4 r.value.toNat)) ∧
  (∀ x ∈ ([(.ok, 0x00), (.unknownCommand, 0x01), (.badLength, 0x02), (.badArgument, 0x03), (.wrongState, 0x04),
     (.tableFull, 0x05), (.notFound, 0x06), (.planInvalid, 0x07), (.checkMismatch, 0x08), (.circuitInFlight, 0x09),
     (.closingBusy, 0x0A), (.closingFull, 0x0B)] : List (Status × Byte)), statusCode x.1 = x.2) ∧
  (∀ x ∈ ([(.started, 0), (.syncLocked, 1), (.syncHoldover, 2), (.syncLost, 3), (.epochChanged, 4), (.meteringOverrun, 5),
     (.planCommitted, 6), (.planFault, 7), (.refQualified, 8), (.refOutOfBand, 9), (.refLost, 10), (.circuitBlocked, 11),
     (.circuitUnblocked, 12), (.circuitQuiet, 13), (.circuitActive, 14), (.reportHold, 15), (.reportResumed, 16),
     (.linkDown, 17), (.linkUp, 18)] : List (EventKind × Nat)), eventCode x.1 = x.2) ∧
  (∀ x ∈ ([(.none, 0), (.locked, 1), (.holdover, 2), (.lost, 3)] : List (SyncState × Byte)), syncCode x.1 = x.2)

/-- Transmission at the Field port (R12, R13): an idle Field transmit begins the head of a non-empty buffer,
and none begins while one is in progress, while the port is out of UP or with the buffer empty; on completion
that frame leaves, unless its completion is the one that starts a pending reset (R171). A copy of a broadcast is known by
the model's number, and its completion is noted with the command (assumption log 10). -/
def Obligations.FieldTransmitServesItsBuffer : Prop :=
  (∀ s : State,
    (s.links.fieldTx = true ∨ s.links.field.state ≠ .up ∨ s.links.down = [] → exec .fieldTransmitBegin s = .next s) ∧
    (s.links.fieldTx = false → exec (.transmissionComplete .field) s = .next s)) ∧
  ∀ (d : DownFrame) (rest : List DownFrame) (s : State), s.links.down = d :: rest →
    (s.links.field.state = .up → s.links.fieldTx = false →
      exec .fieldTransmitBegin s = .next { s with links := { s.links with fieldTx := true } }) ∧
    (s.links.fieldTx = true → d.copyOf = none →
      exec (.transmissionComplete .field) s = .next { s with links := { s.links with
        fieldTx := false, down := rest
        field := { s.links.field with counters :=
          { s.links.field.counters with transmitted := s.links.field.counters.transmitted + 1 } } } }) ∧
    (s.links.fieldTx = true → ∀ n, d.copyOf = some n →
      (∀ left, s.agent.resetPending = some ⟨left, some n⟩ →
        ∃ t, exec (.transmissionComplete .field) s = .next t ∧ FullyReset .command s t) ∧
      ((∀ left, s.agent.resetPending ≠ some ⟨left, some n⟩) → ∃ t, exec (.transmissionComplete .field) s = .next t ∧
        t.links = { s.links with
          fieldTx := false, down := rest
          field := { s.links.field with counters :=
            { s.links.field.counters with transmitted := s.links.field.counters.transmitted + 1 } } } ∧
        t.agent = { s.agent with queue := s.agent.queue.map fun c =>
          if (c.broadcast.map Prod.fst) = some n then { c with broadcast := some (n, .completed) }
          else c }))

/-- A completed transmission at Head transmit tells its source (R13, R162, R177): a response leaves and the waiting one
takes its place, or the pending reset starts (R171); a forwarded frame leaves its buffer; the carried events leave and
the events-lost count returns to 0. A completed TALLY (R142): its record becomes SENT, the highest sent moves to it
when it lies later from the base, and in OPEN a stopped retransmit timer starts; a record that has left the report
queue is not touched, the frame naming none (assumption log 12); a frame with RETRANSMIT counts. That a PART_RESET response
starts the reset also when it was aborted before and is sent again is the model's reading (assumption log 24). -/
def Obligations.HeadTransmitCompletes : Prop :=
  (∀ s : State, s.links.headTx = none → exec (.transmissionComplete .head) s = .next s) ∧
  (∀ (f : Frame) (s : State),
     let sent (links : Links) : Links := { links with
       headTx := none
       head := { links.head with counters := { links.head.counters with
         transmitted := links.head.counters.transmitted + 1 } } }
     (∀ r rest, s.links.headTx = some ⟨.response, f⟩ → s.agent.responses = r :: rest →
       (r.resets = true → ∃ t, exec (.transmissionComplete .head) s = .next t ∧ FullyReset .command s t) ∧
       (r.resets = false → s.agent.waiting = none → exec (.transmissionComplete .head) s =
         .next { s with links := sent s.links, agent := { s.agent with responses := rest } }) ∧
       (r.resets = false → rest.length < 4 → ∀ w, s.agent.waiting = some w → exec (.transmissionComplete .head) s =
         .next { s with links := sent s.links, agent := { s.agent with
           responses := rest ++ [w], retained := some w.response, waiting := none, queue := s.agent.queue.tail } })) ∧
     (s.links.headTx = some ⟨.forward, f⟩ → exec (.transmissionComplete .head) s =
       .next { s with links := { sent s.links with up := s.links.up.tail } }) ∧
     (s.links.headTx = some ⟨.event, f⟩ → exec (.transmissionComplete .head) s =
       .next { s with links := sent s.links, events := { s.events with
         queue := s.events.queue.filter fun r => !r.carried, lost := 0 } })) ∧
  (∀ (record : Option Half) (again : Bool) (f : Frame) (s : State), s.links.headTx = some ⟨.tally record again, f⟩ →
     ∃ t, exec (.transmissionComplete .head) s = .next t ∧
       t = { s with
         links := { s.links with
           headTx := none
           head := { s.links.head with counters :=
             { s.links.head.counters with transmitted := s.links.head.counters.transmitted + 1 } } }
         session := t.session } ∧
       t.session = { s.session with
         queue := t.session.queue, highest := t.session.highest, timer := t.session.timer
         retransmissions := s.session.retransmissions + if again then 1 else 0 } ∧
       (record = none → t.session.queue = s.session.queue ∧ t.session.highest = s.session.highest ∧
         t.session.timer = s.session.timer) ∧
       (∀ q, record = some q →
         t.session.queue = s.session.queue.map (fun r => if r.sequence = q then { r with state := .sent } else r) ∧
         t.session.highest = some (match s.session.highest with
           | none => q
           | some h => if (h - (s.session.base - 1)).toNat < (q - (s.session.base - 1)).toNat then q else h) ∧
         t.session.timer = if s.session.state = .open_ ∧ s.session.timer = none then some s.session.timeout
           else s.session.timer))

/-! ### Scan time and the metering queue (chapter 2) -/

/-- R19: scan numbers are ordered by their difference modulo 65536. A pair whose difference is exactly 32768 makes each
older than the other. -/
def Obligations.ScanOrderIsModular : Prop :=
  ∀ u t : Half,
    beyond u t = (u.toNat + 65536 - t.toNat) % 65536 ∧
    (newer u t = true ↔ 1 ≤ beyond u t ∧ beyond u t ≤ 32767) ∧
    (beyond u t = 0 ↔ u = t) ∧
    (older u t = true ↔ 32768 ≤ beyond u t ∧ beyond u t ≤ 65535) ∧
    (beyond u t = 32768 → newer u t = false ∧ newer t u = false ∧ older u t = true ∧ older t u = true)

/-- The sync monitor (R21, R22, R24): an invalid SYNC body is counted and changes nothing else; a valid one is taken in
every sync state, an epoch change posting EPOCH_CHANGED and placing a flush claim, an entry into LOCKED posting
SYNC_LOCKED after it. The expiry of the sync timer at a remaining time of zero (R23): LOCKED becomes HOLDOVER for a further
5 intervals, HOLDOVER becomes LOST. With time left, as after a SYNC frame that was taken first, or with the timer stopped,
the expiry does not happen. -/
def Obligations.SyncFramesAndTheSyncTimer : Prop :=
  (∀ (body : List Byte) (s : State),
     let interval := (body.getD 3 0).toNat * 256 + (body.getD 4 0).toNat
     let epoch := body.getD 0 0
     let scan : Half := BitVec.ofNat 16 ((body.getD 1 0).toNat * 256 + (body.getD 2 0).toNat)
     let taken : Sync := { s.sync with
       state := .locked, epoch := epoch, scan := scan, interval := some interval, timer := some (3 * interval)
       taken := s.sync.taken + 1 }
     let changed : State := { post .epochChanged (epoch.setWidth 16) (s.sync.epoch.setWidth 32) s with
       engine := { s.engine with claims := s.engine.claims ++ [.epochFlush] } }
     (body.length ≠ 5 ∨ interval < 100 ∨ 5000 < interval →
       syncFrame body s = { s with sync := { s.sync with ignored := s.sync.ignored + 1 } }) ∧
     (body.length = 5 → 100 ≤ interval → interval ≤ 5000 →
       (s.sync.state = .none → syncFrame body s = post .syncLocked 0 (epoch.setWidth 32) { s with sync := taken }) ∧
       (s.sync.state = .locked → epoch = s.sync.epoch → syncFrame body s = { s with sync := taken }) ∧
       (s.sync.state = .locked → epoch ≠ s.sync.epoch → syncFrame body s = { changed with sync := taken }) ∧
       (s.sync.state = .holdover ∨ s.sync.state = .lost → epoch = s.sync.epoch →
         syncFrame body s = post .syncLocked 0 (epoch.setWidth 32) { s with sync := taken }) ∧
       (s.sync.state = .holdover ∨ s.sync.state = .lost → epoch ≠ s.sync.epoch →
         syncFrame body s = post .syncLocked 0 (epoch.setWidth 32) { changed with sync := taken }))) ∧
  (∀ (body : List Byte) (s : State), body.length = 5 →
     100 ≤ (body.getD 3 0).toNat * 256 + (body.getD 4 0).toNat → (body.getD 3 0).toNat * 256 + (body.getD 4 0).toNat ≤ 5000 →
     exec .syncTimerExpiry (syncFrame body s) = .next (syncFrame body s)) ∧
  (∀ s : State, s.sync.timer ≠ some 0 → exec .syncTimerExpiry s = .next s) ∧
  (∀ (interval : Nat) (s : State), s.sync.timer = some 0 →
     (s.sync.state = .locked → s.sync.interval = some interval → exec .syncTimerExpiry s =
       .next (post .syncHoldover 0 (s.sync.scan.setWidth 32)
         { s with sync := { s.sync with state := .holdover, timer := some (5 * interval) } })) ∧
     (s.sync.state = .holdover → exec .syncTimerExpiry s =
       .next (post .syncLost 0 (s.sync.scan.setWidth 32)
         { s with sync := { s.sync with state := .lost, timer := none } })))

/-- R26: when a SAMPLE frame is malformed, node 255 included. -/
def Obligations.MalformedSampleFrames : Prop :=
  ∀ (node : Byte) (body : List Byte),
    malformedSample node body = true ↔
      body.length < 5 ∨ ¬ (1 ≤ (body.getD 3 0).toNat ∧ (body.getD 3 0).toNat ≤ 8) ∨
      ¬ (1 ≤ (body.getD 4 0).toNat ∧ (body.getD 4 0).toNat ≤ 8) ∨
      body.length ≠ 5 + 2 * (body.getD 4 0).toNat * (body.getD 3 0).toNat ∨ node.toNat = 255

/-- The acceptance of a SAMPLE frame (R27, R28): the four conditions in order, each with its counter; an admitted frame
joins the queue whole, or is an overrun when 8 wait. -/
def Obligations.SampleFramesAreAcceptedInOrder : Prop :=
  ∀ (node : Byte) (body : List Byte) (s : State),
    let k := s.engine.counters
    let counted (k : ScanCounters) : State := { s with engine := { s.engine with counters := k } }
    (s.part.state ≠ .metering → acceptSample node body s = counted { k with notMeteredPart := k.notMeteredPart + 1 }) ∧
    (s.part.state = .metering → malformedSample node body = true →
      acceptSample node body s = counted { k with notMeteredMalformed := k.notMeteredMalformed + 1 }) ∧
    (s.part.state = .metering → malformedSample node body = false →
      (s.sync.state = .none ∨ s.sync.state = .lost →
        acceptSample node body s = counted { k with notMeteredNoSync := k.notMeteredNoSync + 1 }) ∧
      (s.sync.state = .locked ∨ s.sync.state = .holdover →
        (body.getD 0 0 ≠ s.sync.epoch →
          acceptSample node body s = counted { k with notMeteredEpoch := k.notMeteredEpoch + 1 }) ∧
        (body.getD 0 0 = s.sync.epoch →
          (s.engine.queue.length < 8 → ∃ f : SampleFrame,
            acceptSample node body s = { s with engine := { s.engine with queue := s.engine.queue ++ [f] } } ∧
            f.node = node ∧ f.epoch = body.getD 0 0 ∧
            f.first.toNat = (body.getD 1 0).toNat * 256 + (body.getD 2 0).toNat ∧
            f.channels = (body.getD 3 0).toNat ∧ f.scans = (body.getD 4 0).toNat ∧
            f.values.length = f.scans * f.channels ∧
            ∀ i, i < f.values.length → (f.values.getD i 0).toNat =
              (body.getD (5 + 2 * i) 0).toNat * 256 + (body.getD (6 + 2 * i) 0).toNat) ∧
          (8 ≤ s.engine.queue.length → acceptSample node body s =
            post .meteringOverrun 0 (node.setWidth 32) (counted { k with overruns := k.overruns + 1 })))))

/-- The order of a frame's samples (R32): scan by scan from scan 0; within a scan every sample that is not CURRENT in
ascending channel order, then every CURRENT sample in ascending channel order; the scan number is the first plus the
scan's index, the value is the frame's in scan-major order, and the last sample of each scan alone ends it. What a
sample feeds (R33): the target of the stream entry whose node and channel are the sample's, and nothing without such an
entry. -/
def Obligations.FrameSamplesComeInTwoPasses : Prop :=
  (∀ (p : PlanContents) (node : Byte) (channel : Nat), channel < 8 →
    let feeds (e : StreamEntry) : Prop := e.node.val = node.toNat ∧ e.channel.val = channel
    (∀ before e after, p.streams = before ++ e :: after → feeds e → (∀ x ∈ before, ¬ feeds x) →
      targetFor p node channel = some e.target) ∧
    ((∀ e ∈ p.streams, ¬ feeds e) → targetFor p node channel = none)) ∧
  ∀ (p : PlanContents) (f : SampleFrame),
    frameSamples p f = (List.range f.scans).flatMap (scanSamples p f) ∧
    ∀ j, 1 ≤ f.channels →
      let isCurrent (n : Nat) : Bool := match targetFor p f.node n with
        | some (.current _) => true
        | _ => false
      let order := (List.range f.channels).filter (fun n => !isCurrent n) ++ (List.range f.channels).filter isCurrent
      (scanSamples p f j).map (fun d => (d.scan, d.value, d.target)) =
        order.map (fun n => (f.first + BitVec.ofNat 16 j, f.values.getD (j * f.channels + n) 0, targetFor p f.node n)) ∧
      (scanSamples p f j).map DueSample.endsScan = List.replicate (f.channels - 1) false ++ [true]

/-- The beginning and the end of a frame (R30, R31, R34): with no frame in metering and no claim waiting, the oldest frame
leaves the queue and is discarded if its epoch has passed, or metered under the active bank as it stands, which the
model holds with the frame (assumption log 11), also in IDLE after a disturbance that enables a circuit, where R106 says
that no sample reaches a circuit (the model's choice, assumption log 23); a frame whose samples are all handled is
counted. A sample without a stream entry is discarded and counted; one of an IGNORE
stream, or of a disabled reference or circuit, is skipped without a count (R33); the last sample of a scan sets the
last metered scan (R32). When none of this happens (R30, R32 to R35): no frame begins while a claim waits or a frame is in
metering; a sample's row handles nothing but a sample of its kind that is the next one; and no claim is taken but the first
waiting one, at a frame boundary. -/
def Obligations.FramesBeginSkipSamplesAndEnd : Prop :=
  (∀ s : State,
     (∀ f rest, s.engine.metering = none → s.engine.claims = [] → s.engine.queue = f :: rest →
       (f.epoch ≠ s.sync.epoch → exec .frameBegin s = .next { s with engine := { s.engine with
         queue := rest
         counters := { s.engine.counters with notMeteredEpoch := s.engine.counters.notMeteredEpoch + 1 } } }) ∧
       (f.epoch = s.sync.epoch → exec .frameBegin s = .next { s with engine := { s.engine with
         queue := rest
         metering := some ⟨s.plan.active.contents, frameSamples s.plan.active.contents f⟩ } })) ∧
     (∀ p, s.engine.metering = some ⟨p, []⟩ → exec .frameMetered s = .next { s with engine := { s.engine with
       metering := none
       counters := { s.engine.counters with framesMetered := s.engine.counters.framesMetered + 1 } } })) ∧
  (∀ (p : PlanContents) (d : DueSample) (rest : List DueSample) (s : State), s.engine.metering = some ⟨p, d :: rest⟩ →
     let handled (k : ScanCounters) : Result := .next { s with engine := { s.engine with
       metering := some ⟨p, rest⟩, lastScan := if d.endsScan then d.scan else s.engine.lastScan, counters := k } }
     (d.target = none → exec .unmappedSample s =
       handled { s.engine.counters with unmapped := s.engine.counters.unmapped + 1 }) ∧
     (d.target = some .ignore → exec .unmappedSample s = handled s.engine.counters) ∧
     (∀ r, d.target = some (.voltage r) → (refRecord p r).enabled = false →
       exec .unmappedSample s = handled s.engine.counters) ∧
     (∀ c, d.target = some (.current c) → (circuitRecord p c).enabled = false →
       exec .unmappedSample s = handled s.engine.counters)) ∧
  (∀ s : State,
     let voltage := ∃ p d r, NextSample p d s ∧ d.target = some (.voltage r) ∧ (refRecord p r).enabled = true
     let current := ∃ p d c, NextSample p d s ∧ d.target = some (.current c) ∧ (circuitRecord p c).enabled = true
     (s.engine.metering ≠ none ∨ s.engine.claims ≠ [] ∨ s.engine.queue = [] → exec .frameBegin s = .next s) ∧
     ((∀ p, s.engine.metering ≠ some ⟨p, []⟩) → exec .frameMetered s = .next s) ∧
     ((∀ p d, ¬ NextSample p d s) ∨ voltage ∨ current → exec .unmappedSample s = .next s) ∧
     (¬ voltage → exec .voltageSample s = .next s) ∧
     (¬ current → exec .currentSample s = .next s)) ∧
  (∀ s : State,
     let first (c : Claim) : Prop := s.engine.metering = none ∧ s.engine.claims.head? = some c
     ((∀ check, ¬ first (.commitBoundary check)) → exec .commitBoundary s = .next s) ∧
     (¬ first .epochFlush → exec .epochFlush s = .next s) ∧
     (¬ first .builderTake → exec .builderTake s = .next s) ∧
     ((∀ us, ¬ first (.ackRelease us)) → exec .ackRelease s = .next s) ∧
     ((∀ us, ¬ first (.sessionRestore us)) → exec .sessionRestore s = .next s) ∧
     ((∀ c, ¬ first (.circuitRead c)) → exec .circuitReadClaim s = .next s) ∧
     ((∀ r, ¬ first (.referenceRead r)) → exec .referenceReadClaim s = .next s) ∧
     (¬ first .meteringClear → exec .meteringClearClaim s = .next s))

/-- Every SAMPLE frame offered for metering is accounted for (chapter 2, 2.6): outside a reset and a clear of the counters,
the six counters of its endings, with the frames in the queue and in metering, rise by one exactly at a good SAMPLE frame
from the Field port where the part takes frames, and never otherwise. -/
def Obligations.SampleFramesAreAccounted : Prop :=
  let account (s : State) : Word :=
    let k := s.engine.counters
    k.notMeteredPart + k.notMeteredMalformed + k.notMeteredNoSync + k.notMeteredEpoch + k.overruns + k.framesMetered +
      BitVec.ofNat 32 (s.engine.queue.length + if s.engine.metering.isSome then 1 else 0)
  ∀ (i : Instr) (s t : State), exec i s = .next t → t.part.state ≠ .bypass → i ≠ .countersRead →
    account t = account s + match i, s.links.field.reception with
      | .frameEnd ⟨.field, _⟩, .assembling f =>
        if s.links.field.state = .up ∧ 6 ≤ f.length ∧ goodFrame f = true ∧ frameKind f = 0x10 ∧
          takesIn s.part.state = true then 1 else 0
      | _, _ => 0

/-! ### Voltage references (chapter 4) -/

/-- A voltage sample of an enabled reference (R66, R67): a duplicate or a late sample is counted and ignored; any other is
stored, seen by the census when it is the new newest, and then used for park service. A stored sample keeps the ring
in order (R65, R66): distinct scans, each older than the next; a ring with room keeps every sample, and a full ring
that the sample is not too late for loses its oldest alone. That a sample exactly 32768 scans from the newest of a full
ring is stored where it is newer than the oldest, by step 2 of R66 and against its last sentence, is the model's choice,
and so is park service by the test of the head alone (assumption log 27). -/
def Obligations.VoltageSamplesAreStoredInOrderOrCounted : Prop :=
  (∀ (p : PlanContents) (d : DueSample) (rest : List DueSample) (r : Fin 16) (s : State),
     s.engine.metering = some ⟨p, d :: rest⟩ → d.target = some (.voltage r) → (refRecord p r).enabled = true →
     let ring := (s.ref r).ring
     let x : RingSample := ⟨d.scan, d.value⟩
     let newest := ring = [] ∨ ∃ n, ring.getLast? = some n ∧ newer d.scan n.scan = true
     let stored : State := s.onRef r fun q => { q with ring := ringStore ring x, stored := q.stored + 1 }
     let handled (t : State) : Result := .next { t with engine := { t.engine with
       metering := some ⟨p, rest⟩, lastScan := if d.endsScan then d.scan else t.engine.lastScan } }
     ((∃ y ∈ ring, y.scan = d.scan) →
       exec .voltageSample s = handled (s.onRef r fun q => { q with duplicates := q.duplicates + 1 })) ∧
     ((∀ y ∈ ring, y.scan ≠ d.scan) →
       (32 ≤ ring.length → (∀ o, ring.head? = some o → older d.scan o.scan = true) →
         exec .voltageSample s = handled (s.onRef r fun q => { q with late := q.late + 1 })) ∧
       (ring.length < 32 ∨ (∃ o, ring.head? = some o ∧ older d.scan o.scan = false) →
         (newest → exec .voltageSample s = handled (parkService p r d.scan (censusSees p r ring.getLast? x stored))) ∧
         (¬ newest → exec .voltageSample s = handled (parkService p r d.scan stored))))) ∧
  (∀ (ring : List RingSample) (x : RingSample), ScansOrdered (ring.map RingSample.scan) → (∀ y ∈ ring, y.scan ≠ x.scan) →
     ScansOrdered ((ringStore ring x).map RingSample.scan) ∧
     (ring.length < 32 → (ringStore ring x).Perm (x :: ring)) ∧
     (∀ o tail, ring = o :: tail → ring.length = 32 → older x.scan o.scan = false →
       (ringStore ring x).Perm (x :: tail)) ∧
     ((∀ n, ring.getLast? = some n → newer x.scan n.scan = true) → (ringStore ring x).getLast? = some x))

/-- What the census does with the new newest sample of a ring (R69, R70, R71, R72, R74, R75), given its predecessor. The
clauses follow the rules: no census in IDLE and UNCHECKED; a gap; no crossing; a crossing in LOST; a crossing without a
period base; a period; a short sum. In each the LOST test closes it, from the watch scan as it then stands. -/
def Obligations.CensusFollowsTheNewestSample : Prop :=
  ∀ (p : PlanContents) (i : Fin 16) (prior : Option RingSample) (x : RingSample) (s : State), s.refs.length = 16 →
    let r := refRecord p i
    let k := (s.ref i).census
    let t := censusSees p i prior x s
    let level (y : RingSample) : Int := y.value.toInt - r.zeroOffset.toInt
    let gap := ∃ y, prior = some y ∧ 64 < beyond x.scan y.scan
    let crossing := ∃ y, prior = some y ∧ beyond x.scan y.scan ≤ 64 ∧ level y < 0 ∧ 0 ≤ level x
    let watch : Half := k.watch.getD x.scan
    let lost (w : Half) : Prop := newer x.scan w = true ∧ 4 * r.bandMax.toNat < beyond x.scan w
    (k.state = .idle ∨ k.state = .unchecked → t = s) ∧
    (k.state = .lost →
      (gap → t = s.onRef i fun q =>
        { q with gaps := q.gaps + 1, census := { k with baseValid := false, watch := some watch } }) ∧
      (¬ gap → ¬ crossing → t = s.onRef i fun q => { q with census := { k with watch := some watch } }) ∧
      (crossing → t = s.onRef i fun q => { q with census := { k with
        state := .qualifying, lastCrossing := some x.scan, watch := some x.scan, baseValid := true, periods := 0
        runShort := 0, shorts := 0, runLong := 0 } })) ∧
    (k.state = .qualifying ∨ k.state = .qualified ∨ k.state = .outOfBand →
      (gap → lost watch → t = post .refLost (BitVec.ofNat 16 i.val) (watch.setWidth 32) (s.onRef i fun q =>
        { q with gaps := q.gaps + 1, census := { k with state := .lost, baseValid := false, watch := some watch } })) ∧
      (gap → ¬ lost watch → t = s.onRef i fun q =>
        { q with gaps := q.gaps + 1, census := { k with baseValid := false, watch := some watch } }) ∧
      (¬ gap → ¬ crossing → lost watch → t = post .refLost (BitVec.ofNat 16 i.val) (watch.setWidth 32)
        (s.onRef i fun q => { q with census := { k with state := .lost, watch := some watch } })) ∧
      (¬ gap → ¬ crossing → ¬ lost watch → t = s.onRef i fun q => { q with census := { k with watch := some watch } }) ∧
      (crossing → k.baseValid = false ∨ k.lastCrossing = none → t = s.onRef i fun q => { q with census := { k with
        lastCrossing := some x.scan, watch := some x.scan, baseValid := true } }) ∧
      (∀ c, crossing → k.baseValid = true → k.lastCrossing = some c →
        (k.periods + 1 ≠ 16 → t = s.onRef i fun q => { q with census := { k with
          lastCrossing := some x.scan, watch := some x.scan, lastPeriod := beyond x.scan c, periods := k.periods + 1
          runShort := k.runShort + beyond x.scan c } }) ∧
        (k.periods + 1 = 16 →
          let sum := k.runShort + beyond x.scan c
          let band := 16 * r.bandMin.toNat ≤ sum ∧ sum ≤ 16 * r.bandMax.toNat
          let after : State := s.onRef i fun q => { q with census := { k with
            state := if band then .qualified else .outOfBand
            lastCrossing := some x.scan, watch := some x.scan, lastPeriod := beyond x.scan c, lastShort := sum
            periods := 0, runShort := 0
            shorts := if k.shorts + 1 = 8 then 0 else k.shorts + 1
            runLong := if k.shorts + 1 = 8 then 0 else k.runLong + sum
            lastLong := if k.shorts + 1 = 8 then k.runLong + sum else k.lastLong } }
          (band → k.state = .qualified → t = after) ∧
          (band → k.state ≠ .qualified →
            t = post .refQualified (BitVec.ofNat 16 i.val) (BitVec.ofNat 32 sum) after) ∧
          (¬ band → k.state = .outOfBand → t = after) ∧
          (¬ band → k.state ≠ .outOfBand →
            t = post .refOutOfBand (BitVec.ofNat 16 i.val) (BitVec.ofNat 32 sum) after))))

/-! ### Circuit metering (chapter 5) -/

/-- A current sample of an enabled circuit (R86, R87), its polarity applied: paired when the ring holds its scan; a
duplicate when it is already parked; parked when the ring is empty or older, a full queue first losing its oldest as a
miss; and otherwise a miss. Park service (R88): of a circuit enabled in the plan and naming the reference, every
parked sample up to the first that is newer than the stored voltage sample leaves the queue. One whose scan the ring holds
forms a pair with the ring's sample of that scan, in queue order, and is counted as paired or, with the gate closed, as
unqualified; one whose scan the ring does not hold is missed. No other circuit is touched. The circuits are served one after
another, in ascending order (R88), which the event queue and the builder's triggers show. The model's choices: after a
disturbance of a stored reference index the queue is served from the reference named now (assumption log 23), and the
test of the head decides for parked scans more than 32767 scans from the stored one too (assumption log 27). -/
def Obligations.CurrentSamplesArePairedParkedOrMissed : Prop :=
  (∀ (p : PlanContents) (d : DueSample) (rest : List DueSample) (c : Fin 96) (s : State),
     s.engine.metering = some ⟨p, d :: rest⟩ → d.target = some (.current c) → (circuitRecord p c).enabled = true →
     s.circuits.length = 96 →
     let r := circuitRecord p c
     let ring := (s.ref r.reference).ring
     let park := (s.circ c).park
     let i : Half := if r.polarity = .normal then d.value else if d.value.toInt = -32768 then 32767 else -d.value
     let handled (t : State) : Result := .next { t with engine := { t.engine with
       metering := some ⟨p, rest⟩, lastScan := if d.endsScan then d.scan else t.engine.lastScan } }
     (∀ y ∈ ring, y.scan = d.scan → (∀ z ∈ ring, z.scan = d.scan → z = y) →
       exec .currentSample s = handled (formPair p c i y.value s)) ∧
     ((∀ y ∈ ring, y.scan ≠ d.scan) →
       ((∃ q ∈ park, q.scan = d.scan) →
         exec .currentSample s = handled (s.onCirc c fun x => { x with duplicate := x.duplicate + 1 })) ∧
       ((∀ q ∈ park, q.scan ≠ d.scan) →
         (ring = [] ∨ (∃ n, ring.getLast? = some n ∧ newer d.scan n.scan = true) →
           (park.length < 8 → exec .currentSample s = handled (s.onCirc c fun x =>
             { x with park := placeByScan Parked.scan ⟨d.scan, i⟩ park })) ∧
           (8 ≤ park.length → exec .currentSample s = handled (s.onCirc c fun x =>
             { x with park := placeByScan Parked.scan ⟨d.scan, i⟩ park.tail, missed := x.missed + 1 }))) ∧
         (∀ n, ring.getLast? = some n → newer d.scan n.scan = false →
           exec .currentSample s = handled (s.onCirc c fun x => { x with missed := x.missed + 1 }))))) ∧
  (∀ (p : PlanContents) (r : Fin 16) (u : Half) (s : State) (c : Fin 96), s.circuits.length = 96 →
     let before := s.circ c
     let after := (parkService p r u s).circ c
     let served := (circuitRecord p c).enabled = true ∧ (circuitRecord p c).reference = r
     (¬ served → after = before) ∧
     (served →
       let ring := (s.ref r).ring
       let taken := before.park.takeWhile fun q => !newer q.scan u
       let pairs : List (Half × Half) := taken.filterMap fun q =>
         (ring.find? fun y => y.scan == q.scan).map fun y => (q.value, y.value)
       let metered := (pairs.foldl (fun t x => formPair p c x.1 x.2 t) s).circ c
       let openGate := (s.ref r).census.state = .qualified ∨ (s.ref r).census.state = .unchecked
       after = { metered with
         park := before.park.dropWhile fun q => !newer q.scan u
         missed := before.missed + BitVec.ofNat 32 (taken.filter fun q => !ring.any fun y => y.scan == q.scan).length } ∧
       (openGate → after.paired = before.paired + BitVec.ofNat 32 pairs.length ∧ after.unqualified = before.unqualified) ∧
       (¬ openGate → after.paired = before.paired ∧
         after.unqualified = before.unqualified + BitVec.ofNat 32 pairs.length)) ∧
     (parkService p r u s).refs = s.refs ∧ (parkService p r u s).engine =
       { s.engine with claims := (parkService p r u s).engine.claims }) ∧
  (∀ (p : PlanContents) (r : Fin 16) (u : Half) (s : State), s.circuits.length = 96 →
     let served := ((List.range 96).map (Fin.ofNat 96)).filter fun c =>
       (circuitRecord p c).enabled && (circuitRecord p c).reference == r
     let one (c : Fin 96) (t : State) (q : Parked) : State :=
       let left := t.onCirc c fun x => { x with park := x.park.tail }
       match (s.ref r).ring.find? fun y => y.scan == q.scan with
       | some y => formPair p c q.value y.value left
       | none => left.onCirc c fun x => { x with missed := x.missed + 1 }
     parkService p r u s = served.foldl (fun t c => ((t.circ c).park.takeWhile fun q => !newer q.scan u).foldl (one c) t) s)

/-- The account of current samples (5.2): while no counters are cleared, a circuit's five counters and its park queue
together rise by one for each current sample handled for it, and never otherwise. Closing, METERING_CLEAR and a reset
are left out, as they clear the counters. -/
def Obligations.CurrentSamplesAreAccounted : Prop :=
  let account (s : State) (c : Fin 96) : Word :=
    let x := s.circ c
    x.paired + x.missed + x.unqualified + x.flushed + x.duplicate + BitVec.ofNat 32 x.park.length
  ∀ (i : Instr) (s t : State) (c : Fin 96), s.circuits.length = 96 → exec i s = .next t → t.part.state ≠ .bypass →
    i ≠ .countersRead → i ≠ .commitBoundary → i ≠ .meteringClearClaim →
    (i ≠ .currentSample → account t c = account s c) ∧
    (∀ p d, i = .currentSample → NextSample p d s →
      account t c = account s c + if handlingOf p d.target = .current c then 1 else 0)

/-- R91: the corrected product. Its range is within ±1,610,645,271. -/
def Obligations.CorrectedProductIsExact : Prop :=
  ∀ (r : CircuitRecord) (i v : Half),
    let p := v.toInt * i.toInt
    let gained := p + (p * r.gain.toInt).tdiv 65536
    p ≤ 1073741824 ∧ -1073709056 ≤ p ∧ correctedProduct r i v = gained + r.offset.toInt ∧
      -1610645271 ≤ correctedProduct r i v ∧ correctedProduct r i v ≤ 1610645271 ∧ (r.gain = 0 → gained = p)

/-- The gate (R77): a pair goes on to the five steps of R101 when the census of the circuit's reference is QUALIFIED or
UNCHECKED; otherwise it is counted as unqualified and nothing else happens. What a pair that passed the gate does (R92 to
R96, R98, R101): the pair is counted; the energy joins one accumulator with saturation; at most one overflow of one
effective quantum is taken; when the partial count then equals the divisor (assumption log 13) a unit is generated or
suppressed, and a generated unit that reaches the urgent level gives an urgent trigger; at the owed cap the direction is
blocked instead. Nothing of the other direction or of another circuit moves. Last the quiet floor sees the pair, with the
direction whose overflow was taken or with none (R109). A corrected product of 0 adds no energy, makes no overflow check,
and goes to the floor with none. For an acceleration of 0, which no rule gives a quotient, the effective quantum is the
model's free value (assumption log 4), and the statement holds whatever it is. -/
def Obligations.PairsPassTheGateAddEnergyAndOverflow : Prop :=
  (∀ (p : PlanContents) (c : Fin 96) (i v : Half) (s : State),
     let k := (s.ref (circuitRecord p c).reference).census.state
     (k = .qualified ∨ k = .unchecked → formPair p c i v s = accumulatePair (circuitRecord p c) c i v s) ∧
     (k ≠ .qualified → k ≠ .unchecked →
       formPair p c i v s = s.onCirc c fun x => { x with unqualified := x.unqualified + 1 })) ∧
  (∀ (r : CircuitRecord) (c : Fin 96) (i v : Half) (s : State), correctedProduct r i v = 0 →
     accumulatePair r c i v s = floorAtPair r c none (s.onCirc c fun x => { x with paired := x.paired + 1 })) ∧
  (∀ (r : CircuitRecord) (c : Fin 96) (i v : Half) (d : Direction) (s : State), s.circuits.length = 96 →
     (if d = .imp then 0 < correctedProduct r i v else correctedProduct r i v < 0) →
     let x := (s.circ c).dir d
     let energy := (correctedProduct r i v).natAbs
     let held := min (x.accumulator + energy) 281474976710655
     let quantum := max 1 (if r.acceleration = 0 then Config.quotientByZero r.quantum
       else r.quantum.toNat / r.acceleration.toNat)
     let selected := r.select = .both ∨ (r.select = .imp ∧ d = .imp) ∨ (r.select = .exp ∧ d = .exp)
     let due := quantum ≤ held ∧ x.blocked = false
     let atCap := selected ∧ x.pending + x.inFlight = 16777215
     let overflow := due ∧ ¬ atCap
     let unit := overflow ∧ x.partialCount + 1 = r.divisor.toNat
     let y : DirState := { x with
       accumulator := if overflow then held - quantum else held
       satLoss := if x.accumulator + energy ≤ 281474976710655 then x.satLoss
         else min (x.satLoss + (x.accumulator + energy - 281474976710655)) 281474976710655
       partialCount := if unit then 0 else if overflow then x.partialCount + 1 else x.partialCount
       pending := if unit ∧ selected then x.pending + 1 else x.pending
       suppressed := if unit ∧ ¬ selected then x.suppressed + 1 else x.suppressed
       test := x.test || decide (unit ∧ selected ∧ 1 < r.acceleration.toNat)
       holdover := x.holdover || decide (unit ∧ selected ∧ s.sync.state = .holdover)
       blocked := x.blocked || decide (due ∧ atCap) }
     let counted : State := s.onCirc c fun z => { z.onDir d (fun _ => y) with paired := z.paired + 1 }
     accumulatePair r c i v s = floorAtPair r c (if overflow then some d else none)
       (if due ∧ atCap then post .circuitBlocked (BitVec.ofNat 16 c.val) (if d = .imp then 0 else 1) counted
        else if unit ∧ selected ∧ s.builder.urgent ≤ x.pending + 1 then trigger ⟨false, false, true⟩ counted
        else counted))

/-! ### Quiet floor (chapter 6) -/

/-- The floor at a gated pair (R109 to R112): with the floor disabled nothing; an overflow restarts it; otherwise it takes
a step, and at the limit both accumulators are discarded into their totals. CIRCUIT_ACTIVE and CIRCUIT_QUIET are posted
when the floor state changes. That a floor whose stored enable a disturbance cleared keeps its accumulator and its state,
QUIET included, is the model's choice (assumption log 23). -/
def Obligations.FloorRestartsStepsAndDiscards : Prop :=
  ∀ (r : CircuitRecord) (c : Fin 96) (s : State), s.circuits.length = 96 →
    let x := s.circ c
    let sum := x.floorAcc + r.floorStep.toNat
    let energy := x.imp.accumulator + x.exp.accumulator
    let quiet : State := s.onCirc c fun _ => { x with
      imp := { x.imp with
        accumulator := 0, floorDiscarded := min (x.imp.floorDiscarded + x.imp.accumulator) 281474976710655 }
      exp := { x.exp with
        accumulator := 0, floorDiscarded := min (x.exp.floorDiscarded + x.exp.accumulator) 281474976710655 }
      floorAcc := 0, floor := .quiet }
    let active : State := s.onCirc c fun _ => { x with floorAcc := 0, floor := .active }
    (r.floorEnable = false → ∀ o, floorAtPair r c o s = s) ∧
    (r.floorEnable = true →
      (∀ d, x.floor = .active → floorAtPair r c (some d) s = active) ∧
      (∀ d, x.floor = .quiet → floorAtPair r c (some d) s =
        post .circuitActive (BitVec.ofNat 16 c.val) (if d = .imp then 0 else 1) active) ∧
      (sum < r.floorLimit.toNat → floorAtPair r c none s = s.onCirc c fun _ => { x with floorAcc := sum }) ∧
      (r.floorLimit.toNat ≤ sum → x.floor = .quiet → floorAtPair r c none s = quiet) ∧
      (r.floorLimit.toNat ≤ sum → x.floor = .active → floorAtPair r c none s =
        post .circuitQuiet (BitVec.ofNat 16 c.val) (BitVec.ofNat 32 (min energy 4294967295)) quiet))

/-! ### The metering plan (chapter 3) -/

/-- PLAN_CLEAR makes the shadow bank the empty bank (R43); PLAN_COPY makes it the active bank as stored, header included,
and answers with that generation and check (R44). -/
def Obligations.ShadowBankIsClearedAndCopied : Prop :=
  ∀ (c : Command) (s : State),
    (Admitted .planClear c s → exec .planClear s = .next (complete .ok []
      { s with plan := { s.plan with shadow := ⟨⟨[], List.replicate 96 clearedCircuitRecord,
        List.replicate 16 clearedRefRecord⟩, 0, planCheck emptyContents⟩ } })) ∧
    (Admitted .planCopy c s → exec .planCopy s = .next (complete .ok
      (be 4 s.plan.active.generation.toNat ++ be 4 s.plan.active.check.toNat)
      { s with plan := { s.plan with shadow := s.plan.active } }))

/-- STREAM_LOAD of 1 to 8 entries (R45), written as R197 and R198 write them: the first entry with node, channel, role or
index out of range is refused by its position, where the index of an IGNORE entry is not examined; then entries with one
key are refused at the later one, the first such position where several repeat (assumption log 14); entries that do not fit are refused with the count held; otherwise the shadow list stays in strict key
order and holds the new entries and every old one whose key they do not name. STREAM_REMOVE of 1 to 8 keys (R46): the
first key with node or channel out of range is refused by its position; then an absent key refuses the whole command, naming the first; otherwise exactly the entries with those keys go. -/
def Obligations.StreamCommandsApplyAllOrNothing : Prop :=
  (∀ (es : List (Byte × Byte × Byte × Byte)) (c : Command) (s : State), Admitted .streamLoad c s →
     1 ≤ es.length → es.length ≤ 8 →
     c.args = BitVec.ofNat 8 es.length :: es.flatMap (fun e => [e.1, e.2.1, e.2.2.1, e.2.2.2]) →
     let outOfRange (e : Byte × Byte × Byte × Byte) : Prop :=
       254 < e.1.toNat ∨ 7 < e.2.1.toNat ∨ 2 < e.2.2.1.toNat ∨ (e.2.2.1.toNat = 0 ∧ 15 < e.2.2.2.toNat) ∨
         (e.2.2.1.toNat = 1 ∧ 95 < e.2.2.2.toNat)
     ∀ before e after, es = before ++ e :: after → (∀ x ∈ before, ¬ outOfRange x) → outOfRange e →
       exec .streamLoad s = .next (complete .badArgument [BitVec.ofNat 8 before.length] s)) ∧
  (∀ (ks : List (Byte × Byte)) (c : Command) (s : State), Admitted .streamRemove c s → 1 ≤ ks.length → ks.length ≤ 8 →
     c.args = BitVec.ofNat 8 ks.length :: ks.flatMap (fun k => [k.1, k.2]) →
     let outOfRange (k : Byte × Byte) : Prop := 254 < k.1.toNat ∨ 7 < k.2.toNat
     ∀ before k after, ks = before ++ k :: after → (∀ x ∈ before, ¬ outOfRange x) → outOfRange k →
       exec .streamRemove s = .next (complete .badArgument [BitVec.ofNat 8 before.length] s)) ∧
  (∀ (es : List StreamEntry) (c : Command) (s : State), Admitted .streamLoad c s → 1 ≤ es.length → es.length ≤ 8 →
     c.args = BitVec.ofNat 8 es.length :: es.flatMap streamOctets →
     let held := s.plan.shadow.contents.streams
     let fresh := es.filter fun e => !held.any fun x => entryKey x == entryKey e
     (∀ before e after, es = before ++ e :: after → (before.map entryKey).Nodup → entryKey e ∈ before.map entryKey →
       exec .streamLoad s = .next (complete .badArgument [BitVec.ofNat 8 before.length] s)) ∧
     ((es.map entryKey).Nodup →
       (256 < held.length + fresh.length →
         exec .streamLoad s = .next (complete .tableFull (be 2 held.length) s)) ∧
       (held.length + fresh.length ≤ 256 → keysAscend held = true → ∃ list,
         exec .streamLoad s = .next (complete .ok (be 2 list.length) { s with plan := { s.plan with shadow :=
           { s.plan.shadow with contents := { s.plan.shadow.contents with streams := list } } } }) ∧
         keysAscend list = true ∧ list.length = held.length + fresh.length ∧
         ∀ x, x ∈ list ↔ x ∈ es ∨ (x ∈ held ∧ ∀ e ∈ es, entryKey e ≠ entryKey x)))) ∧
  (∀ (ks : List (Fin 255 × Fin 8)) (c : Command) (s : State), Admitted .streamRemove c s → 1 ≤ ks.length → ks.length ≤ 8 →
     c.args = BitVec.ofNat 8 ks.length :: ks.flatMap (fun k => [BitVec.ofNat 8 k.1.val, BitVec.ofNat 8 k.2.val]) →
     let held := s.plan.shadow.contents.streams
     let present (k : Fin 255 × Fin 8) : Prop := ∃ e ∈ held, e.node = k.1 ∧ e.channel = k.2
     let list := held.filter fun e => !ks.contains (e.node, e.channel)
     ((∀ k ∈ ks, present k) →
       exec .streamRemove s = .next (complete .ok (be 2 list.length) { s with plan := { s.plan with shadow :=
         { s.plan.shadow with contents := { s.plan.shadow.contents with streams := list } } } })) ∧
     (∀ before k after, ks = before ++ k :: after → (∀ x ∈ before, present x) → ¬ present k →
       exec .streamRemove s = .next (complete .notFound [BitVec.ofNat 8 before.length] s)))

/-- CIRCUIT_LOAD and REFERENCE_LOAD of a record in range replace the shadow's record whole (R47, R48); the first field out
of range, numbered from 0 for the index, refuses the command. Which field that is, for arguments in the layout of R166
with every field at any value: a band minimum above its maximum is named against the maximum. -/
def Obligations.RecordsAreLoadedWhole : Prop :=
  (∀ (index enabled reference polarity divisor acceleration select floorEnable : Byte) (account : Word)
     (gain offset floorStep : Half) (quantum floorLimit : Wide),
     circuitLoadFailure ([index, enabled] ++ be 4 account.toNat ++ [reference, polarity] ++ be 2 gain.toNat ++
       be 2 offset.toNat ++ be 6 quantum.toNat ++ [divisor, acceleration, select, floorEnable] ++ be 2 floorStep.toNat ++
       be 6 floorLimit.toNat) =
       if 95 < index.toNat then some 0
       else if 1 < enabled.toNat then some 1
       else if 15 < reference.toNat then some 3
       else if 1 < polarity.toNat then some 4
       else if quantum.toNat = 0 ∨ 1099511627776 < quantum.toNat then some 7
       else if divisor.toNat = 0 ∨ 16 < divisor.toNat then some 8
       else if acceleration.toNat ∉ [1, 4, 8, 16] then some 9
       else if 2 < select.toNat then some 10
       else if 1 < floorEnable.toNat then some 11
       else if floorStep.toNat = 0 then some 12
       else if floorLimit.toNat = 0 ∨ 1099511627776 < floorLimit.toNat then some 13
       else none) ∧
  (∀ (index enabled censusEnable : Byte) (zeroOffset bandMin bandMax : Half),
     referenceLoadFailure ([index, enabled, censusEnable] ++ be 2 zeroOffset.toNat ++ be 2 bandMin.toNat ++
       be 2 bandMax.toNat) =
       if 15 < index.toNat then some 0
       else if 1 < enabled.toNat then some 1
       else if 1 < censusEnable.toNat then some 2
       else if bandMin.toNat < 8 ∨ 4095 < bandMin.toNat then some 4
       else if bandMax.toNat < 8 ∨ 4095 < bandMax.toNat ∨ bandMax.toNat < bandMin.toNat then some 5
       else none) ∧
  ∀ (c : Command) (s : State),
    (Admitted .circuitLoad c s →
      (∀ (i : Fin 96) (r : CircuitRecord), c.args = BitVec.ofNat 8 i.val :: circuitOctets r →
        (1 ≤ r.quantum.toNat ∧ r.quantum.toNat ≤ 1099511627776 ∧ 1 ≤ r.divisor.toNat ∧ r.divisor.toNat ≤ 16 ∧
          r.acceleration.toNat ∈ [1, 4, 8, 16] ∧ 1 ≤ r.floorStep.toNat ∧ 1 ≤ r.floorLimit.toNat ∧
          r.floorLimit.toNat ≤ 1099511627776 → exec .circuitLoad s = .next (complete .ok [] { s with plan := { s.plan with
            shadow := { s.plan.shadow with contents := { s.plan.shadow.contents with
              circuits := s.plan.shadow.contents.circuits.set i.val r } } } })) ∧
        (r.quantum.toNat = 0 ∨ 1099511627776 < r.quantum.toNat →
          exec .circuitLoad s = .next (complete .badArgument [7] s))) ∧
      (∀ n, circuitLoadFailure c.args = some n → exec .circuitLoad s = .next (complete .badArgument (be 1 n) s)) ∧
      (∀ i, c.args.head? = some i → 96 ≤ i.toNat → exec .circuitLoad s = .next (complete .badArgument [0] s))) ∧
    (Admitted .referenceLoad c s →
      (∀ (i : Fin 16) (r : RefRecord), c.args = BitVec.ofNat 8 i.val :: refOctets r →
        8 ≤ r.bandMin.toNat → r.bandMin.toNat ≤ 4095 →
        (r.bandMin.toNat ≤ r.bandMax.toNat → r.bandMax.toNat ≤ 4095 →
          exec .referenceLoad s = .next (complete .ok [] { s with plan := { s.plan with
            shadow := { s.plan.shadow with contents := { s.plan.shadow.contents with
              references := s.plan.shadow.contents.references.set i.val r } } } })) ∧
        (r.bandMax.toNat < r.bandMin.toNat ∨ 4095 < r.bandMax.toNat →
          exec .referenceLoad s = .next (complete .badArgument [5] s))) ∧
      (∀ n, referenceLoadFailure c.args = some n → exec .referenceLoad s = .next (complete .badArgument (be 1 n) s)))

/-- PLAN_READ (R49): each section of the named bank with its start and count; a start out of range is answered with index
2, a count out of range with index 3; the plan is not changed. -/
def Obligations.PlanReadReadsTheNamedBank : Prop :=
  ∀ (bank section_ start count : Byte) (c : Command) (s : State), Admitted .planRead c s →
    c.args = [bank, section_, start, count] →
    let b := if bank.toNat = 0 then s.plan.active else s.plan.shadow
    let answer (results : List Byte) : Result := .next (complete .ok results s)
    let refused (n : Byte) : Result := .next (complete .badArgument [n] s)
    (section_.toNat = 0 →
      (start.toNat = 0 → count.toNat = 1 → exec .planRead s = answer (be 4 b.generation.toNat ++ be 4 b.check.toNat ++
        be 2 b.contents.streams.length)) ∧
      (start.toNat ≠ 0 → exec .planRead s = refused 2) ∧
      (start.toNat = 0 → count.toNat ≠ 1 → exec .planRead s = refused 3)) ∧
    (section_.toNat = 1 →
      let got := (b.contents.streams.drop start.toNat).take count.toNat
      (1 ≤ count.toNat → count.toNat ≤ 32 → exec .planRead s = answer (be 2 b.contents.streams.length ++
        be 1 got.length ++ got.flatMap streamOctets)) ∧
      (count.toNat < 1 ∨ 32 < count.toNat → exec .planRead s = refused 3)) ∧
    (section_.toNat = 2 →
      (1 ≤ count.toNat → count.toNat ≤ 8 → start.toNat + count.toNat ≤ 96 → exec .planRead s = answer (start :: count ::
        ((b.contents.circuits.drop start.toNat).take count.toNat).flatMap circuitOctets)) ∧
      (96 ≤ start.toNat → exec .planRead s = refused 2) ∧
      (start.toNat < 96 → count.toNat < 1 ∨ 8 < count.toNat ∨ 96 < start.toNat + count.toNat →
        exec .planRead s = refused 3)) ∧
    (section_.toNat = 3 →
      (1 ≤ count.toNat → count.toNat ≤ 16 → start.toNat + count.toNat ≤ 16 → exec .planRead s = answer (start :: count ::
        ((b.contents.references.drop start.toNat).take count.toNat).flatMap refOctets)) ∧
      (16 ≤ start.toNat → exec .planRead s = refused 2) ∧
      (start.toNat < 16 → count.toNat < 1 ∨ 16 < count.toNat ∨ 16 < start.toNat + count.toNat →
        exec .planRead s = refused 3))

/-- A plan passes validation exactly when every check of R51 holds: no reference with two VOLTAGE streams, no circuit with
two CURRENT streams, and every enabled circuit with a CURRENT stream, an enabled reference, that reference's VOLTAGE
stream, and an account. Otherwise the first failure is named, in the order of R51, with its reason and its lowest index:
each check over all indices before the next, but 3a to 3d in turn for each enabled circuit before the next circuit. -/
def Obligations.ValidationChecksTheCrossReferences : Prop :=
  ∀ p : PlanContents,
    let streams (t : Target) : Nat := (p.streams.filter fun e => e.target == t).length
    (planInvalid p = none ↔
      (∀ r, streams (.voltage r) ≤ 1) ∧ (∀ c, streams (.current c) ≤ 1) ∧
      ∀ c, (circuitRecord p c).enabled = true →
        streams (.current c) = 1 ∧ (refRecord p (circuitRecord p c).reference).enabled = true ∧
        streams (.voltage (circuitRecord p c).reference) = 1 ∧ (circuitRecord p c).account ≠ 0) ∧
    (∀ r, 2 ≤ streams (.voltage r) → (∀ q < r, streams (.voltage q) ≤ 1) →
      planInvalid p = some (.voltageShared, r.val)) ∧
    ((∀ r, streams (.voltage r) ≤ 1) →
      (∀ c, 2 ≤ streams (.current c) → (∀ b < c, streams (.current b) ≤ 1) →
        planInvalid p = some (.currentShared, c.val)) ∧
      ((∀ c, streams (.current c) ≤ 1) → ∀ c, (circuitRecord p c).enabled = true →
        (∀ b < c, (circuitRecord p b).enabled = true →
          streams (.current b) ≠ 0 ∧ (refRecord p (circuitRecord p b).reference).enabled = true ∧
          streams (.voltage (circuitRecord p b).reference) ≠ 0 ∧ (circuitRecord p b).account ≠ 0) →
        let ref := (circuitRecord p c).reference
        (streams (.current c) = 0 → planInvalid p = some (.noCurrentStream, c.val)) ∧
        (streams (.current c) ≠ 0 → (refRecord p ref).enabled = false →
          planInvalid p = some (.referenceDisabled, c.val)) ∧
        (streams (.current c) ≠ 0 → (refRecord p ref).enabled = true → streams (.voltage ref) = 0 →
          planInvalid p = some (.noVoltageStream, c.val)) ∧
        (streams (.current c) ≠ 0 → (refRecord p ref).enabled = true → streams (.voltage ref) ≠ 0 →
          (circuitRecord p c).account = 0 → planInvalid p = some (.accountZero, c.val))))

/-- PLAN_COMMIT up to its boundary (R50 to R53): PLAN_INVALID with reason and index; then CHECK_MISMATCH with the computed
check; then the boundary claim with the command held. Neither refusal changes anything but the answer. The codes of the
reasons (R197). -/
def Obligations.PlanCommitChecksInPhases : Prop :=
  (∀ (c : Command) (s : State), Admitted .planCommit c s →
    let plan := s.plan.shadow.contents
    let expected := fieldAt c.args 0 4
    (∀ reason n, planInvalid plan = some (reason, n) →
      exec .planCommit s = .next (complete .planInvalid [reasonCode reason, BitVec.ofNat 8 n] s)) ∧
    (planInvalid plan = none →
      ((planCheck plan).toNat ≠ expected →
        exec .planCommit s = .next (complete .checkMismatch (be 4 (planCheck plan).toNat) s)) ∧
      ((planCheck plan).toNat = expected → exec .planCommit s = .next { s with
        engine := { s.engine with claims := s.engine.claims ++ [.commitBoundary (planCheck plan)] }
        agent := { s.agent with held := some .commit } }))) ∧
  (∀ x ∈ ([(.voltageShared, 1), (.currentShared, 2), (.noCurrentStream, 3), (.referenceDisabled, 4), (.noVoltageStream, 5),
     (.accountZero, 6)] : List (InvalidReason × Byte)), reasonCode x.1 = x.2)

/-- The refusals at the boundary (R54), in their order: a circuit of the closing set with units in flight, one with a
closing entry already, or too few free places. The claim is taken, the command is answered and nothing else changes. -/
def Obligations.CommitBoundaryRefuses : Prop :=
  ∀ (check : Word) (rest : List Claim) (s : State), s.engine.metering = none →
    s.engine.claims = .commitBoundary check :: rest →
    let set := closingSet s.plan.active.contents s.plan.shadow.contents
    let inFlight (c : Fin 96) : Prop := 0 < (s.circ c).imp.inFlight ∨ 0 < (s.circ c).exp.inFlight
    let busy (c : Fin 96) : Prop := ∃ k ∈ s.builder.closings, k.circuit = c
    let answered (st : Status) (results : List Byte) : Result :=
      .next (completeHeld .commit st results { s with engine := { s.engine with claims := rest } })
    (∀ c, c ∈ set ↔ (circuitRecord s.plan.active.contents c).enabled = true ∧
      ((circuitRecord s.plan.shadow.contents c).enabled = false ∨ (circuitRecord s.plan.shadow.contents c).account ≠
        (circuitRecord s.plan.active.contents c).account)) ∧
    (∀ c ∈ set, inFlight c → (∀ b ∈ set, b < c → ¬ inFlight b) →
      exec .commitBoundary s = answered .circuitInFlight [BitVec.ofNat 8 c.val]) ∧
    ((∀ b ∈ set, ¬ inFlight b) →
      (∀ c ∈ set, busy c → (∀ b ∈ set, b < c → ¬ busy b) →
        exec .commitBoundary s = answered .closingBusy [BitVec.ofNat 8 c.val]) ∧
      ((∀ b ∈ set, ¬ busy b) → 8 - s.builder.closings.length < set.length →
        exec .commitBoundary s = answered .closingFull (be 1 set.length ++ be 1 (8 - s.builder.closings.length))))

/-- A commit without refusal (R55 to R58): every circuit of the closing set leaves a closing entry and is cleared; the
banks swap, the generation rises and the header takes the check; references and kept circuits follow their tables; the
part is METERING with a new pass, or IDLE with the scrubber stopped; the held command is answered. CIRCUIT_UNBLOCKED is
posted for each blocked direction that is closed, then for each that the new select leaves out, and PLAN_COMMITTED last;
that the kept circuits come ascending, and IMPORT before EXPORT, is the model's choice (assumption log 8). Under a new
divisor of 0, which no rule gives a count, the partial count is the model's free value (assumption log 4). A newly
enabled circuit holds the cleared floor values (R116). The stream key of a target (R57, R58) is the node and channel of the
entry that names it, or none. How a disturbed bank is compared, the lowest key of several entries, and what else a
disabled circuit keeps, are the model's choices (assumption log 23). -/
def Obligations.CommitClosesSwapsAndAdjusts : Prop :=
  (∀ (p : PlanContents) (r : Fin 16) (c : Fin 96), keysAscend p.streams = true →
    let lowest (e : StreamEntry) : Prop := e ∈ p.streams ∧ ∀ x ∈ p.streams, x.target = e.target →
      e.node < x.node ∨ (e.node = x.node ∧ e.channel ≤ x.channel)
    (∀ e, lowest e → (e.target = .voltage r → voltageKey p r = some (e.node.val * 8 + e.channel.val)) ∧
      (e.target = .current c → currentKey p c = some (e.node.val * 8 + e.channel.val))) ∧
    ((∀ e ∈ p.streams, e.target ≠ .voltage r) → voltageKey p r = none) ∧
    ((∀ e ∈ p.streams, e.target ≠ .current c) → currentKey p c = none)) ∧
  ∀ (check : Word) (rest : List Claim) (s : State), s.engine.metering = none →
    s.engine.claims = .commitBoundary check :: rest → s.circuits.length = 96 → s.refs.length = 16 →
    let old := s.plan.active.contents
    let new := s.plan.shadow.contents
    let set := closingSet old new
    (∀ c ∈ set, (s.circ c).imp.inFlight = 0 ∧ (s.circ c).exp.inFlight = 0 ∧ ∀ k ∈ s.builder.closings, k.circuit ≠ c) →
    set.length ≤ 8 - s.builder.closings.length →
    ∃ t, exec .commitBoundary s = .next t ∧
      t.plan = ⟨⟨new, s.plan.active.generation + 1, check⟩, s.plan.active,
        if anyEnabled new then .running 0 0xFFFFFFFF else .stopped, s.plan.passes⟩ ∧
      t.part = { s.part with state := if anyEnabled new then .metering else .idle } ∧
      t.builder = { s.builder with closings := s.builder.closings ++ set.map fun c =>
        let r := circuitRecord old c
        let x := s.circ c
        ⟨c, r.account, x.imp.pending, x.exp.pending, x.imp.partialCount, x.exp.partialCount, x.imp.accumulator,
          x.exp.accumulator, r.quantum, r.acceleration, x.imp.test || x.exp.test, x.imp.holdover || x.exp.holdover, none⟩ } ∧
      (∀ c ∈ set, t.circ c = CircuitState.cleared) ∧
      (∀ c, c ∉ set → (circuitRecord new c).enabled = false → t.circ c = s.circ c) ∧
      (∀ c, (circuitRecord old c).enabled = false → (circuitRecord new c).enabled = true →
        let x := s.circ c
        t.circ c = { x with
          imp := { x.imp with floorDiscarded := 0 }, exp := { x.exp with floorDiscarded := 0 }, floorAcc := 0
          floor := .active }) ∧
      (∀ c, c ∉ set → (circuitRecord old c).enabled = true → (circuitRecord new c).enabled = true →
        let a := circuitRecord old c
        let b := circuitRecord new c
        let x := s.circ c
        let lowered (n : Nat) : Nat := if b.divisor.toNat = 0 then (Config.partialAtDivisorZero n).val
          else if b.divisor.toNat ≤ n then b.divisor.toNat - 1 else n
        let moved := currentKey old c ≠ currentKey new c ∨ a.reference ≠ b.reference
        let floorOff := a.floorEnable = true ∧ b.floorEnable = false
        t.circ c = { x with
          imp := { x.imp with partialCount := lowered x.imp.partialCount, blocked := x.imp.blocked && selects b.select .imp }
          exp := { x.exp with partialCount := lowered x.exp.partialCount, blocked := x.exp.blocked && selects b.select .exp }
          park := if moved then [] else x.park
          flushed := if moved then x.flushed + BitVec.ofNat 32 x.park.length else x.flushed
          floor := if floorOff then .active else x.floor
          floorAcc := if floorOff then 0 else x.floorAcc }) ∧
      (∀ i, let a := refRecord old i
        let b := refRecord new i
        let q := s.ref i
        (b.enabled = false → t.ref i = { q with ring := [], census := .restarted .idle }) ∧
        (b.enabled = true → a.enabled = false ∨ voltageKey old i ≠ voltageKey new i → t.ref i =
          { q with ring := [], census := .restarted (if b.censusEnable then .qualifying else .unchecked) }) ∧
        (b.enabled = true → a.enabled = true → voltageKey old i = voltageKey new i →
          t.ref i = if a.zeroOffset = b.zeroOffset ∧ a.bandMin = b.bandMin ∧ a.bandMax = b.bandMax ∧
            a.censusEnable = b.censusEnable then q
          else { q with census := .restarted (if b.censusEnable then .qualifying else .unchecked) })) ∧
      t.agent = (completeHeld .commit .ok
        (be 4 (s.plan.active.generation + 1).toNat ++ be 4 check.toNat) s).agent ∧
      (let both (c : Fin 96) : List (Fin 96 × Direction) := [(c, .imp), (c, .exp)]
       let closed := (set.flatMap both).filter fun v => ((s.circ v.1).dir v.2).blocked
       let left := (allCircuits.flatMap both).filter fun v => ((s.circ v.1).dir v.2).blocked && !set.contains v.1 &&
         (circuitRecord old v.1).enabled && (circuitRecord new v.1).enabled && !selects (circuitRecord new v.1).select v.2
       t.events = posted .planCommitted 0 check t.part ((closed ++ left).foldl (fun e v =>
         posted .circuitUnblocked (BitVec.ofNat 16 v.1.val) (if v.2 = .imp then 0 else 1) s.part e) s.events)) ∧
      t.engine = { s.engine with claims := rest } ∧ t.links = s.links ∧ t.sync = s.sync ∧ t.session = s.session ∧
      t.pending = s.pending

/-- The scrubber (R60, R61, R63): the end of its wait, with no time left, begins a pass; a pass whose check equals the header's counts and
waits 100 ms; a pass with another check faults the plan, posts PLAN_FAULT with it, empties the metering queue into the
part-state counter and stops. A disturbance replaces what the active bank stores, and a pass in progress keeps what it
has read (R61): over storage that is not disturbed, a pass read to any position and then to its end computes the check
of the whole bank, so that it matches the header exactly when the header's check is the bank's. How much of the bank a
pass had read, which the spec leaves to the moment, is the row's operand (assumption log 3). -/
def Obligations.ScrubberPassesAndDisturbances : Prop :=
  (∀ s : State,
     (s.plan.pass = .waiting 0 →
       exec .scrubWaitExpiry s = .next { s with plan := { s.plan with pass := .running 0 0xFFFFFFFF } }) ∧
     (s.plan.pass ≠ .waiting 0 → exec .scrubWaitExpiry s = .next s) ∧
     (∀ position check, s.plan.pass = .running position check →
       let computed := ~~~ crc32Run check ((serialize s.plan.active.contents).drop position)
       (computed = s.plan.active.check → exec .scrubPassEnd s =
         .next { s with plan := { s.plan with pass := .waiting 100, passes := s.plan.passes + 1 } }) ∧
       (computed ≠ s.plan.active.check → ∃ t, exec .scrubPassEnd s = .next t ∧
         t = { s with
           part := { s.part with state := .faulted }
           plan := { s.plan with pass := .stopped }
           engine := { s.engine with queue := [], counters := { s.engine.counters with
             notMeteredPart := s.engine.counters.notMeteredPart + BitVec.ofNat 32 s.engine.queue.length } }
           events := takePosting .planFault 0 s.part.ms computed s.events }))) ∧
  (∀ (contents : PlanContents) (check : Word) (read : Nat) (s : State), contentsWf contents = true →
     let stored : State := { s with plan := { s.plan with active := { s.plan.active with contents := contents, check := check } } }
     (∀ left, s.plan.pass = .waiting left ∨ s.plan.pass = .stopped →
       exec (.storageDisturbance contents check read) s = .next stored) ∧
     (∀ n, s.plan.pass = .running n (crc32Run 0xFFFFFFFF ((serialize s.plan.active.contents).take n)) →
       n ≤ (serialize s.plan.active.contents).length →
       (s.plan.active.check = planCheck s.plan.active.contents ↔
         exec .scrubPassEnd s = .next { s with plan := { s.plan with pass := .waiting 100, passes := s.plan.passes + 1 } }) ∧
       (n ≤ read → read ≤ (serialize s.plan.active.contents).length →
         exec (.storageDisturbance contents check read) s = .next { stored with plan := { stored.plan with
           pass := .running read (crc32Run 0xFFFFFFFF ((serialize s.plan.active.contents).take read)) } })))

/-! ### Epoch change (chapter 2, 2.2.1) and reads (4.4, 5.7, 5.8) -/

/-- An epoch flush claim (R25, R68): every ring and park queue is emptied, the parked samples counted as flushed, and every
census restarts by its record in the active bank. Nothing else of a circuit or reference moves. While a frame is in metering
the claim is not taken. That a reference which a disturbance enabled in DEFECT restarts by its record too, where R83 keeps
every census IDLE, is the model's choice (assumption log 23). -/
def Obligations.EpochFlushEmptiesRingsAndParks : Prop :=
  ∀ (rest : List Claim) (s : State), s.engine.claims = .epochFlush :: rest →
    (s.engine.metering ≠ none → exec .epochFlush s = .next s) ∧
    (s.engine.metering = none → exec .epochFlush s = .next { s with
      engine := { s.engine with claims := rest }
      circuits := s.circuits.map fun x => { x with park := [], flushed := x.flushed + BitVec.ofNat 32 x.park.length }
      refs := s.refs.mapIdx fun i q =>
        let r := refRecord s.plan.active.contents (Fin.ofNat 16 i)
        { q with
          ring := []
          census := ⟨if r.enabled then (if r.censusEnable then .qualifying else .unchecked) else .idle, none, false, none,
            0, 0, 0, 0, 0, 0, 0⟩ } })

/-! ### Tally records and the report queue (chapter 7) -/

/-- A trigger (R125): with the session CLOSED or 16 records waiting it is dropped and counted; otherwise it joins the
waiting run, or places a builder take claim of its own. The expiry of the interval timer at a remaining time of zero
(R124) restarts the timer with the report interval and gives an interval trigger; with time left it does not happen. A
unit generated (R95) raises the pending units and sets the taints, and gives the builder an urgent trigger when the
pending units reach the urgent level. -/
def Obligations.TriggersJoinPlaceOrDrop : Prop :=
  (∀ (g : Triggers) (s : State),
     (s.session.state = .closed ∨ 16 ≤ s.session.queue.length →
       trigger g s = { s with builder := { s.builder with dropped := s.builder.dropped + 1 } }) ∧
     (s.session.state ≠ .closed → s.session.queue.length < 16 →
       (s.builder.waiting = none → trigger g s = { s with
         builder := { s.builder with waiting := some g }
         engine := { s.engine with claims := s.engine.claims ++ [.builderTake] } }) ∧
       (∀ w, s.builder.waiting = some w → trigger g s = { s with builder := { s.builder with
         waiting := some ⟨w.interval || g.interval, w.flush || g.flush, w.urgent || g.urgent⟩ } })) ∧
     (s.builder.timer ≠ some 0 → exec .intervalTimerExpiry s = .next s) ∧
     (s.builder.timer = some 0 → exec .intervalTimerExpiry s = .next (trigger ⟨true, false, false⟩
       { s with builder := { s.builder with timer := some (1000 * s.builder.interval) } }))) ∧
  (∀ (r : CircuitRecord) (c : Fin 96) (d : Direction) (s : State), s.circuits.length = 96 →
     let generated : State := s.onDir c d fun x => { x with
       pending := x.pending + 1
       test := x.test || decide (1 < r.acceleration.toNat)
       holdover := x.holdover || decide (s.sync.state = .holdover) }
     (s.builder.urgent ≤ ((s.circ c).dir d).pending + 1 →
       generateUnit r c d s = trigger ⟨false, false, true⟩ generated) ∧
     (((s.circ c).dir d).pending + 1 < s.builder.urgent → generateUnit r c d s = generated))

/-- A builder take that finds something (R118, R119, R127 to R129): the record carries every closing WAITING, oldest
first, and then the first pending directions in visiting order from the cursor, to 24 entries. Each UNITS entry moves
up to 65535 units from pending to in-flight with the taints, so no owed count changes; the closings are bound; the
cursor moves past the last circuit that gave an entry. Nothing else of a circuit moves. A builder take that finds nothing or may not build (R126,
R130): abandoned and counted when the session has closed or 16 records wait; with no closing WAITING and no unit
pending, a flush builds an empty record, an interval counts one idle interval and builds a heartbeat at the fourth,
and an urgent trigger alone builds nothing. -/
def Obligations.BuilderTakesComposeRecords : Prop :=
  (∀ (w : Triggers) (rest : List Claim) (s : State), s.engine.metering = none → s.engine.claims = .builderTake :: rest →
     s.builder.waiting = some w → s.session.state ≠ .closed → s.session.queue.length < 16 → s.circuits.length = 96 →
     s.builder.closings.length ≤ 8 →
     let waiting := s.builder.closings.filter fun k => k.bound.isNone
     let visit : List (Fin 96 × Direction) :=
       (List.range 96).flatMap fun i => [(s.builder.cursor + Fin.ofNat 96 i, .imp), (s.builder.cursor + Fin.ofNat 96 i, .exp)]
     let taken := (visit.filter fun v => decide (0 < ((s.circ v.1).dir v.2).pending)).take (24 - waiting.length)
     let entries := waiting.map Entry.close ++ taken.map fun v =>
       let x := (s.circ v.1).dir v.2
       Entry.units ⟨v.1, v.2, min x.pending 65535, x.test, x.holdover⟩
         (circuitRecord s.plan.active.contents v.1).account
     let after (c : Fin 96) (d : Direction) : DirState :=
       let x := (s.circ c).dir d
       if (c, d) ∈ taken then { x with
         pending := x.pending - min x.pending 65535, inFlight := x.inFlight + min x.pending 65535
         test := false, holdover := false }
       else x
     entries ≠ [] →
     ∃ t, exec .builderTake s = .next t ∧ entries.length ≤ 24 ∧
       t.session = { s.session with
         queue := s.session.queue ++ [⟨s.session.id.getD 0, s.session.next, s.sync.epoch, s.engine.lastScan, s.sync.state,
           entries, .unsent⟩]
         next := s.session.next + 1 } ∧
       t.circuits = (((List.range 96).map (Fin.ofNat 96)).map fun c =>
         { s.circ c with imp := after c .imp, exp := after c .exp }) ∧
       (∀ c d, ((t.circ c).dir d).owed = ((s.circ c).dir d).owed) ∧
       t.builder = { s.builder with
         waiting := none, built := s.builder.built + 1, idle := 0
         closings := s.builder.closings.map fun k => if k.bound = none then { k with bound := some s.session.next } else k
         cursor := match taken.getLast? with
           | none => s.builder.cursor
           | some v => v.1 + 1 } ∧
       t.engine = { s.engine with claims := rest } ∧
       t.agent = (completeHeld .flush .ok ([1] ++ be 2 s.session.next.toNat ++ be 1 entries.length) s).agent ∧
       t.part = s.part ∧ t.links = s.links ∧ t.sync = s.sync ∧ t.refs = s.refs ∧ t.plan = s.plan ∧ t.events = s.events) ∧
  (∀ (w : Triggers) (rest : List Claim) (s : State), s.engine.metering = none → s.engine.claims = .builderTake :: rest →
     s.builder.waiting = some w →
     let base : State := { s with
       engine := { s.engine with claims := rest }, builder := { s.builder with waiting := none } }
     let empty : State := completeHeld .flush .ok ([1] ++ be 2 s.session.next.toNat ++ [0]) { base with
       session := { s.session with
         queue := s.session.queue ++ [⟨s.session.id.getD 0, s.session.next, s.sync.epoch, s.engine.lastScan, s.sync.state, [],
           .unsent⟩]
         next := s.session.next + 1 }
       builder := { base.builder with
         built := s.builder.built + 1, emptyBuilt := s.builder.emptyBuilt + 1, idle := 0 } }
     (s.session.state = .closed ∨ 16 ≤ s.session.queue.length →
       exec .builderTake s = .next (completeHeld .flush .ok [0, 0, 0, 0]
         { base with builder := { base.builder with dropped := s.builder.dropped + 1 } })) ∧
     (s.session.state ≠ .closed → s.session.queue.length < 16 → (∀ k ∈ s.builder.closings, k.bound ≠ none) →
       (∀ c, (s.circ c).imp.pending = 0 ∧ (s.circ c).exp.pending = 0) →
       (w.flush = true → exec .builderTake s = .next empty) ∧
       (w.flush = false → w.interval = true → s.builder.idle + 1 = 4 → exec .builderTake s = .next empty) ∧
       (w.flush = false → w.interval = true → s.builder.idle + 1 ≠ 4 → exec .builderTake s =
         .next { base with builder := { base.builder with idle := s.builder.idle + 1 } }) ∧
       (w.flush = false → w.interval = false → exec .builderTake s = .next base)))

/-! ### The report session (chapter 8) -/

/-- An ack release claim lowers the in-flight units of each circuit and direction it names by the units named, and unblocks
a blocked one whose owed count falls below the cap, posting CIRCUIT_UNBLOCKED once for each (R100, R145), in the order in
which the claim first names them, which is the model's choice (assumption log 8); a session restore claim moves the units back to pending
with the taints they carried and answers the SESSION_CLOSE held for it (R151). Nothing else of a circuit moves (R107). -/
def Obligations.ClaimsReleaseAndRestoreUnits : Prop :=
  ∀ (us : List UnitsRef) (rest : List Claim) (s : State), s.engine.metering = none → s.circuits.length = 96 →
    let named (c : Fin 96) (d : Direction) : List UnitsRef := us.filter fun u => u.circuit == c && u.direction == d
    let circuits := (List.range 96).map (Fin.ofNat 96)
    let released (c : Fin 96) (d : Direction) : DirState :=
      let x := (s.circ c).dir d
      let left := x.inFlight - unitsOfPair c d us
      { x with inFlight := left, blocked := x.blocked && !decide (named c d ≠ [] ∧ x.pending + left < 16777215) }
    let restored (c : Fin 96) (d : Direction) : DirState :=
      let x := (s.circ c).dir d
      { x with
        inFlight := x.inFlight - unitsOfPair c d us, pending := x.pending + unitsOfPair c d us
        test := x.test || (named c d).any UnitsRef.test, holdover := x.holdover || (named c d).any UnitsRef.holdover }
    (s.engine.claims = .ackRelease us :: rest → ∃ t, exec .ackRelease s = .next t ∧
      t = { s with engine := { s.engine with claims := rest }, circuits := t.circuits, events := t.events } ∧
      t.circuits = (circuits.map fun c => { s.circ c with imp := released c .imp, exp := released c .exp }) ∧
      t.events = ((us.map fun u => (u.circuit, u.direction)).eraseDups.filter fun v =>
          let x := (s.circ v.1).dir v.2
          x.blocked && decide (x.pending + (x.inFlight - unitsOfPair v.1 v.2 us) < 16777215)).foldl
        (fun e v => posted .circuitUnblocked (BitVec.ofNat 16 v.1.val) (if v.2 = .imp then 0 else 1) s.part e) s.events) ∧
    (s.engine.claims = .sessionRestore us :: rest → ∃ t, exec .sessionRestore s = .next t ∧
      t = { s with engine := { s.engine with claims := rest }, circuits := t.circuits, agent := t.agent } ∧
      t.circuits = (circuits.map fun c => { s.circ c with imp := restored c .imp, exp := restored c .exp }) ∧
      (∀ n m, s.agent.held = some (.sessionClose n m) → t.agent = (complete .ok (be 1 n ++ be 1 m) s).agent) ∧
      ((∀ n m, s.agent.held ≠ some (.sessionClose n m)) → t.agent = s.agent))

/-- The four checks of an ACK in their order (R143): a wrong length and a sequence beyond the highest sent are stray, a
closed session and another id are stale; none of these changes anything but its counter. A valid ACK (R144, R146,
R149) over the first n records of the queue: they leave it and are counted; the closing entries bound to them are
freed; one ack release claim names their UNITS entries; a TALLY in transmission whose record has gone is marked so
(R153; assumption log 12); count and timer follow; a HOLD ends with the records left SENT marked RESEND. -/
def Obligations.AcknowledgementsAreCheckedAndRetire : Prop :=
  (∀ (body : List Byte) (s : State),
     let stray : State := { s with session := { s.session with acksStray := s.session.acksStray + 1 } }
     let stale : State := { s with session := { s.session with acksStale := s.session.acksStale + 1 } }
     let id : Half := BitVec.ofNat 16 ((body.getD 0 0).toNat * 256 + (body.getD 1 0).toNat)
     let seq : Half := BitVec.ofNat 16 ((body.getD 2 0).toNat * 256 + (body.getD 3 0).toNat)
     let place (q : Half) : Nat := (q - (s.session.base - 1)).toNat
     (body.length ≠ 4 → ackFrame body s = stray) ∧
     (body.length = 4 →
       (s.session.state = .closed → ackFrame body s = stale) ∧
       (s.session.state ≠ .closed → s.session.id ≠ some id → ackFrame body s = stale) ∧
       (s.session.state ≠ .closed → s.session.id = some id → ∀ h, s.session.highest = some h →
         (place h < place seq → ackFrame body s = stray) ∧
         (place seq ≤ place h → ackFrame body s = takeAck (place seq) s)))) ∧
  (∀ (n : Nat) (s : State), n ≤ s.session.queue.length →
     let gone := s.session.queue.take n
     let kept := s.session.queue.drop n
     let units := gone.flatMap fun r => r.entries.filterMap fun e => match e with
       | .units u _ => some u
       | .close _ => none
     let base : Half := match kept with
       | [] => s.session.next
       | r :: _ => r.sequence
     let retired : Session := { s.session with
       acksTaken := s.session.acksTaken + 1, acknowledged := s.session.acknowledged + BitVec.ofNat 32 n, queue := kept
       timeouts := if n = 0 then s.session.timeouts else 0 }
     let released (t : State) : State := { t with
       builder := { s.builder with
         closings := s.builder.closings.filter (fun k => !gone.any (fun r => k.bound == some r.sequence)) }
       engine := if units = [] then s.engine else { s.engine with claims := s.engine.claims ++ [.ackRelease units] }
       links := { s.links with headTx := s.links.headTx.map fun tx => match tx.source with
         | .tally (some q) again => if gone.any (fun r => r.sequence == q) then { tx with source := .tally none again } else tx
         | _ => tx } }
     (s.session.state = .open_ → takeAck n s = released { s with session := { retired with
       timer := if n = 0 then s.session.timer
         else if kept.any (fun r => r.state == .sent) then some s.session.timeout else none } }) ∧
     (s.session.state = .hold → takeAck n s = post .reportResumed (s.session.id.getD 0) (base.setWidth 32)
       (released { s with session := { retired with
         state := .open_, cause := .none, timeouts := 0, timer := none
         queue := kept.map fun r => if r.state = .sent then { r with state := .resend } else r } })))

/-- The expiry of the retransmit timer in OPEN at a remaining time of zero (R147, R148): the timer stops and both counts rise; at the retry limit the
session enters HOLD with cause NO_ACK, posting REPORT_HOLD, and below it every SENT record becomes RESEND. With time left
or the timer stopped the expiry does not happen, and so not after a valid ACK that retired a record. -/
def Obligations.RetransmitTimerExpiryGoesBackOrHolds : Prop :=
  (∀ s : State, s.session.timer ≠ some 0 ∨ s.session.state ≠ .open_ → exec .retransmitTimerExpiry s = .next s) ∧
  (∀ (n : Nat) (s : State), n ≠ 0 → s.session.timeout ≠ 0 →
    exec .retransmitTimerExpiry (takeAck n s) = .next (takeAck n s)) ∧
  ∀ s : State, s.session.timer = some 0 → s.session.state = .open_ →
    let counted : Session := { s.session with
      timer := none, retransmitTimeouts := s.session.retransmitTimeouts + 1, timeouts := s.session.timeouts + 1 }
    (s.session.timeouts + 1 < s.session.retry → exec .retransmitTimerExpiry s = .next { s with
      session := { counted with
        queue := s.session.queue.map fun r => if r.state = .sent then { r with state := .resend } else r } }) ∧
    (s.session.retry ≤ s.session.timeouts + 1 → exec .retransmitTimerExpiry s =
      .next (post .reportHold (s.session.id.getD 0) 1 { s with
        session := { counted with state := .hold, cause := .noAck } }))

/-- SESSION_OPEN (R139, R124): in CLOSED it sets the session and starts the interval timer; in OPEN and HOLD it is refused
with WRONG_STATE and the two states. SESSION_CLOSE (R150): in CLOSED refused; otherwise every record is taken apart,
its closing entries return to WAITING in place, the session closes and both timers stop. With UNITS entries a restore
claim is placed and the command held; else it is answered at once with the records restored and the closings returned. A
TALLY in transmission then names no record (R153; assumption log 12). -/
def Obligations.SessionOpensAndCloses : Prop :=
  (∀ (id first : Half) (c : Command) (s : State), Admitted .sessionOpen c s →
     c.args = be 2 id.toNat ++ be 2 first.toNat →
     (s.session.state = .closed → exec .sessionOpen s = .next (complete .ok [] { s with
       session := { s.session with
         state := .open_, id := some id, next := first, highest := some (first - 1), timeouts := 0, cause := .none
         timer := none }
       builder := { s.builder with timer := some (1000 * s.builder.interval), idle := 0 } })) ∧
     (s.session.state ≠ .closed → exec .sessionOpen s = .next (complete .wrongState
       [partCode s.part.state, sessionCode s.session.state] s))) ∧
  (∀ (c : Command) (s : State), Admitted .sessionClose c s →
     let units := s.session.queue.flatMap fun r => r.entries.filterMap fun e => match e with
       | .units u _ => some u
       | .close _ => none
     let bound (k : Closing) : Bool := s.session.queue.any fun r => k.bound == some r.sequence
     let back := (s.builder.closings.filter bound).length
     let closed : State := { s with
       session := { s.session with
         state := .closed, id := none, highest := none, cause := .none, timeouts := 0, timer := none, queue := []
         restored := s.session.restored + BitVec.ofNat 32 s.session.queue.length }
       builder := { s.builder with
         timer := none, closings := s.builder.closings.map fun k => if bound k then { k with bound := none } else k }
       links := { s.links with headTx := s.links.headTx.map fun tx => match tx.source with
         | .tally (some q) again => if s.session.queue.any (fun r => r.sequence == q) then
           { tx with source := .tally none again } else tx
         | _ => tx } }
     (s.session.state = .closed →
       exec .sessionClose s = .next (complete .wrongState [partCode s.part.state, 0] s)) ∧
     (s.session.state ≠ .closed →
       (units = [] → exec .sessionClose s =
         .next (complete .ok (be 1 s.session.queue.length ++ be 1 back) closed)) ∧
       (units ≠ [] → exec .sessionClose s = .next { closed with
         engine := { s.engine with claims := s.engine.claims ++ [.sessionRestore units] }
         agent := { s.agent with held := some (.sessionClose s.session.queue.length back) } })))

/-! ### Commands and responses (chapter 9) -/

/-- A COMMAND frame on its arrival (R156 to R158): a body under 2 octets is malformed; an addressed command that matches a
queued one is a duplicate, one that matches the retained response is answered by a copy of it unless that response still
waits in the queue or the queue is full; any other joins the command queue or is an overrun. A broadcast REPORT_FLUSH or
PART_RESET outside DEFECT joins or overruns, every other broadcast is ignored. That a queued broadcast matches no
addressed command is the model's reading (assumption log 7). -/
def Obligations.CommandFramesAreTested : Prop :=
  ∀ (tag code : Byte) (args : List Byte) (s : State),
    let a := s.agent
    let queued (c : Command) : State := { s with agent := if a.queue.length < 4 then { a with queue := a.queue ++ [c] }
      else { a with overruns := a.overruns + 1 } }
    let matched := ∃ c ∈ a.queue, c.tag = tag ∧ c.code = code ∧ c.broadcast = none
    let retained := ∃ r, a.retained = some r ∧ r.tag = tag ∧ r.code = code
    (∀ b (body : List Byte), body.length < 2 →
      commandFrame b body s = { s with agent := { a with malformed := a.malformed + 1 } }) ∧
    (matched → commandFrame none (tag :: code :: args) s = { s with agent := { a with duplicates := a.duplicates + 1 } }) ∧
    (¬ matched → ¬ retained → commandFrame none (tag :: code :: args) s = queued ⟨tag, code, args, none⟩) ∧
    (∀ r, ¬ matched → a.retained = some r → r.tag = tag → r.code = code →
      ((∃ x ∈ a.responses, x.original = true) →
        commandFrame none (tag :: code :: args) s = { s with agent := { a with duplicates := a.duplicates + 1 } }) ∧
      ((∀ x ∈ a.responses, x.original = false) →
        (a.responses.length < 4 → commandFrame none (tag :: code :: args) s =
          { s with agent := { a with responses := a.responses ++ [⟨r, false, false⟩], repeated := a.repeated + 1 } }) ∧
        (4 ≤ a.responses.length → commandFrame none (tag :: code :: args) s =
          { s with agent := { a with overruns := a.overruns + 1 } }))) ∧
    (∀ n fate,
      (s.part.state ≠ .defect → code.toNat = 0x23 ∨ code.toNat = 0x51 →
        commandFrame (some (n, fate)) (tag :: code :: args) s = queued ⟨tag, code, args, some (n, fate)⟩) ∧
      (s.part.state = .defect ∨ (code.toNat ≠ 0x23 ∧ code.toNat ≠ 0x51) →
        commandFrame (some (n, fate)) (tag :: code :: args) s =
          { s with agent := { a with broadcastsIgnored := a.broadcastsIgnored + 1 } }))

/-- The agent's refusals in their order (R160, R163), for a command addressed to this tap: an unknown code; a wrong
length; a part in DEFECT, STATUS_READ excepted; an argument out of its range. Each is answered and changes nothing
else. The lengths and ranges that the agent checks (R160, R165, R166, R168 to R170): the length of each command, and
for each checked argument the index that names it. Which command begins execution (R159, R161, R171): the first of the queue,
while none is held, no response waits for a place and no reset is pending; a command's row is taken for its own code
alone. The codes of the 19 commands (R193). Of a PLAN_READ whose bank and section are both out of range the bank is named,
which R166 leaves open: the model's choice (assumption log 26). -/
def Obligations.TheAgentRefusesInOrder : Prop :=
  (∀ (c : Command) (s : State), beginning s = some c ↔
     s.agent.held = none ∧ s.agent.waiting = none ∧ s.agent.resetPending = none ∧ ∃ rest, s.agent.queue = c :: rest) ∧
  (∀ (c : Command) (s : State), beginning s = some c → c.broadcast = none →
     ((∀ k, c.code ≠ commandOctet k) → exec .unknownCommand s = .next (complete .unknownCommand [] s)) ∧
     (∀ k, c.code = commandOctet k → exec .unknownCommand s = .next s) ∧
     ∀ x ∈ [(CommandCode.statusRead, Instr.statusRead), (.countersRead, .countersRead), (.planClear, .planClear),
         (.planCopy, .planCopy), (.streamLoad, .streamLoad), (.streamRemove, .streamRemove), (.circuitLoad, .circuitLoad),
         (.referenceLoad, .referenceLoad), (.planRead, .planRead), (.planCommit, .planCommit), (.sessionOpen, .sessionOpen),
         (.sessionClose, .sessionClose), (.reportConfig, .reportConfig), (.reportFlush, .reportFlush),
         (.circuitRead, .circuitRead), (.referenceRead, .referenceRead), (.eventConfig, .eventConfig),
         (.meteringClear, .meteringClear), (.partReset, .partReset)],
       (c.code ≠ commandOctet x.1 → exec x.2 s = .next s) ∧
       (c.code = commandOctet x.1 →
         (lengthOk x.1 c.args = false → exec x.2 s = .next (complete .badLength [] s)) ∧
         (lengthOk x.1 c.args = true →
           (s.part.state = .defect → x.1 ≠ .statusRead → exec x.2 s = .next (complete .wrongState
             [partCode s.part.state, sessionCode s.session.state] s)) ∧
           (s.part.state ≠ .defect ∨ x.1 = .statusRead → ∀ n, agentRangeFailure x.1 c.args = some n →
             exec x.2 s = .next (complete .badArgument [BitVec.ofNat 8 n] s))))) ∧
  (∀ args : List Byte,
     (∀ k ∈ [CommandCode.statusRead, .planClear, .planCopy, .sessionClose, .reportFlush, .meteringClear, .partReset],
       (lengthOk k args = true ↔ args = [])) ∧
     (∀ x ∈ [(CommandCode.countersRead, 1), (.circuitRead, 1), (.referenceRead, 1), (.planRead, 4), (.planCommit, 4),
         (.sessionOpen, 4), (.eventConfig, 4), (.reportConfig, 7), (.referenceLoad, 9), (.circuitLoad, 30)],
       (lengthOk x.1 args = true ↔ args.length = x.2)) ∧
     (∀ x ∈ [(CommandCode.streamLoad, 4), (.streamRemove, 2)], (lengthOk x.1 args = true ↔
       ∃ n rest, args = n :: rest ∧ 1 ≤ n.toNat ∧ n.toNat ≤ 8 ∧ rest.length = x.2 * n.toNat)) ∧
     (∀ n, agentRangeFailure .circuitRead [n] = (if n.toNat < 96 then none else some 0) ∧
       agentRangeFailure .referenceRead [n] = (if n.toNat < 16 then none else some 0) ∧
       agentRangeFailure .countersRead [n] = (if n.toNat < 2 then none else some 0)) ∧
     (∀ bank section_ start count, agentRangeFailure .planRead [bank, section_, start, count] =
       if 2 ≤ bank.toNat then some 0 else if 4 ≤ section_.toNat then some 1 else none) ∧
     (∀ id first, id < 65536 → agentRangeFailure .sessionOpen (be 2 id ++ be 2 first) = if id = 0 then some 0 else none) ∧
     (∀ mask, mask < 4294967296 → agentRangeFailure .eventConfig (be 4 mask) = if mask < 524288 then none else some 0) ∧
     (∀ interval urgent retry timeout, interval < 65536 → urgent < 65536 → retry < 256 → timeout < 65536 →
       agentRangeFailure .reportConfig (be 2 interval ++ be 2 urgent ++ be 1 retry ++ be 2 timeout) =
         if interval = 0 ∨ 600 < interval then some 0
         else if urgent = 0 then some 1
         else if retry = 0 ∨ 15 < retry then some 2
         else if timeout < 50 ∨ 5000 < timeout then some 3
         else none)) ∧
  (∀ x ∈ ([(.statusRead, 0x01), (.countersRead, 0x02), (.planClear, 0x10), (.planCopy, 0x11), (.streamLoad, 0x12),
     (.streamRemove, 0x13), (.circuitLoad, 0x14), (.referenceLoad, 0x15), (.planRead, 0x16), (.planCommit, 0x17),
     (.sessionOpen, 0x20), (.sessionClose, 0x21), (.reportConfig, 0x22), (.reportFlush, 0x23), (.circuitRead, 0x30),
     (.referenceRead, 0x31), (.eventConfig, 0x40), (.meteringClear, 0x50), (.partReset, 0x51)] :
       List (CommandCode × Byte)), commandOctet x.1 = x.2)

/-- How a command completes (R159, R161): with room, its response joins the response queue, becomes the retained response
and the command leaves; with 4 responses queued it becomes the waiting response and the command keeps its place. A command
held for something else is not completed. Nothing but the agent moves. -/
def Obligations.ResponsesJoinOrWait : Prop :=
  ∀ (st : Status) (results : List Byte) (c : Command) (rest : List Command) (s : State), s.agent.queue = c :: rest →
    let response : Response := ⟨c.tag, c.code, st, results⟩
    (s.agent.responses.length < 4 → complete st results s = { s with agent := { s.agent with
      responses := s.agent.responses ++ [⟨response, true, false⟩], retained := some response, queue := rest
      held := none } }) ∧
    (4 ≤ s.agent.responses.length → complete st results s = { s with agent := { s.agent with
      waiting := some ⟨response, true, false⟩, held := none } }) ∧
    (∀ h, (s.agent.held = some h → completeHeld h st results s = complete st results s) ∧
      (s.agent.held ≠ some h → completeHeld h st results s = s))

/-- STATUS_READ (R164): the values as they stand, in the rule's order and widths, and nothing changes but the answer; a
field holds its number modulo its width, and a part state in which no command is executed has a code of the model's choice
(assumption log 17, 19). The codes that R197 gives these fields: part state, reset cause, port, sync, pass and session
state, and hold cause.
COUNTERS_READ (R165, R179, R180): the clear argument and the 46 counters in the order of R179, each in 4 octets, as
they stand; with clear yes every counter of the part is then 0, those of the circuits and references too, and nothing
else changes. -/
def Obligations.StatusAndCountersAreRead : Prop :=
  (∀ (c : Command) (s : State), Admitted .statusRead c s →
     exec .statusRead s = .next (complete .ok
       ([partCode s.part.state, causeCode s.part.cause, s.part.tap.setWidth 8,
           if s.part.selfCheckPassed then 0 else 1] ++ be 4 s.part.ms.toNat ++
         [portStateCode s.links.field.state, portStateCode s.links.head.state] ++
         [syncCode s.sync.state, s.sync.epoch] ++ be 2 s.sync.scan.toNat ++
         be 2 (s.sync.interval.getD 0) ++
         be 4 s.plan.active.generation.toNat ++ be 4 s.plan.active.check.toNat ++
         [passCode s.plan.pass] ++
         be 1 s.engine.queue.length ++ [(if s.engine.metering.isSome then 1 else 0 : Byte)] ++
         [sessionCode s.session.state] ++ be 2 (s.session.id.getD 0).toNat ++ be 2 s.session.next.toNat ++
         be 2 ((s.session.queue.head?.map Record.sequence).getD s.session.next).toNat ++
         be 2 (s.session.highest.getD 0).toNat ++ [(if s.session.highest.isSome then 1 else 0 : Byte)] ++
         be 1 s.session.queue.length ++ be 1 s.session.timeouts ++ [holdCode s.session.cause] ++
         be 1 s.builder.closings.length ++ be 1 s.agent.queue.length ++ be 1 s.agent.responses.length ++
         be 1 s.events.queue.length ++ be 2 s.events.lost) s)) ∧
  (∀ (clear : Byte) (c : Command) (s : State), Admitted .countersRead c s → c.args = [clear] →
     let port (k : PortCounters) : List Word := [k.received, k.runts, k.giants, k.checkErrors, k.abortedReceptions,
       k.forwardOverruns, k.transmitted, k.abortedTransmissions, k.linkDowns, k.breaks]
     let k := s.engine.counters
     let counters : List Word := port s.links.field.counters ++ port s.links.head.counters ++
       [s.sync.taken, s.sync.ignored, k.notMeteredPart, k.notMeteredMalformed, k.notMeteredNoSync, k.notMeteredEpoch,
         k.overruns, k.framesMetered, k.unmapped, s.plan.passes, s.builder.built, s.builder.emptyBuilt, s.builder.dropped,
         s.session.acksTaken, s.session.acksStale, s.session.acksStray, s.session.retransmitTimeouts,
         s.session.retransmissions, s.session.acknowledged, s.session.restored, s.agent.malformed, s.agent.overruns,
         s.agent.duplicates, s.agent.repeated, s.agent.broadcastsIgnored, s.events.lostCounter]
     let results := clear :: counters.flatMap fun w => be 4 w.toNat
     counters.length = 46 ∧ results.length = 185 ∧
     (clear.toNat = 0 → exec .countersRead s = .next (complete .ok results s)) ∧
     (clear.toNat = 1 → exec .countersRead s = .next (complete .ok results { s with
       links := { s.links with
         field := { s.links.field with counters := ⟨0, 0, 0, 0, 0, 0, 0, 0, 0, 0⟩ }
         head := { s.links.head with counters := ⟨0, 0, 0, 0, 0, 0, 0, 0, 0, 0⟩ } }
       sync := { s.sync with taken := 0, ignored := 0 }
       engine := { s.engine with counters := ⟨0, 0, 0, 0, 0, 0, 0⟩ }
       circuits := s.circuits.map fun x =>
         { x with paired := 0, missed := 0, unqualified := 0, flushed := 0, duplicate := 0 }
       refs := s.refs.map fun q => { q with stored := 0, duplicates := 0, late := 0, gaps := 0 }
       plan := { s.plan with passes := 0 }
       builder := { s.builder with built := 0, emptyBuilt := 0, dropped := 0 }
       session := { s.session with
         acksTaken := 0, acksStale := 0, acksStray := 0, retransmitTimeouts := 0, retransmissions := 0, acknowledged := 0
         restored := 0 }
       agent := { s.agent with malformed := 0, overruns := 0, duplicates := 0, repeated := 0, broadcastsIgnored := 0 }
       events := { s.events with lostCounter := 0 } }))) ∧
  (∀ x ∈ ([(.passive, 1), (.defect, 2), (.idle, 3), (.metering, 4), (.faulted, 5)] : List (PartState × Byte)),
     partCode x.1 = x.2) ∧
  (∀ x ∈ ([(.power, 1), (.break_, 2), (.command, 3)] : List (ResetCause × Byte)), causeCode x.1 = x.2) ∧
  (∀ x ∈ ([(.down, 0), (.up, 1), (.break_, 2)] : List (PortState × Byte)), portStateCode x.1 = x.2) ∧
  (∀ x ∈ ([(.none, 0), (.locked, 1), (.holdover, 2), (.lost, 3)] : List (SyncState × Byte)), syncCode x.1 = x.2) ∧
  (passCode .stopped = 0 ∧ (∀ left, passCode (.waiting left) = 1) ∧
    ∀ position check, passCode (.running position check) = 2) ∧
  (∀ x ∈ ([(.closed, 0), (.open_, 1), (.hold, 2)] : List (SessionState × Byte)), sessionCode x.1 = x.2) ∧
  (∀ x ∈ ([(.none, 0), (.noAck, 1), (.link, 2)] : List (HoldCause × Byte)), holdCode x.1 = x.2)

/-- REPORT_CONFIG and EVENT_CONFIG (R123, R140, R168, R170, R173): the four settings are replaced together and returned; the
mask is replaced with STARTED (bit 0) and PLAN_FAULT (bit 7) set, and the mask applied is returned. -/
def Obligations.SettingsAreReplacedAtOnce : Prop :=
  ∀ (c : Command) (s : State),
    (∀ interval urgent retry timeout, Admitted .reportConfig c s →
      c.args = be 2 interval ++ be 2 urgent ++ be 1 retry ++ be 2 timeout →
      1 ≤ interval → interval ≤ 600 → 1 ≤ urgent → urgent ≤ 65535 → 1 ≤ retry → retry ≤ 15 → 50 ≤ timeout →
      timeout ≤ 5000 →
      exec .reportConfig s = .next (complete .ok c.args { s with
        builder := { s.builder with interval := interval, urgent := urgent }
        session := { s.session with retry := retry, timeout := timeout } })) ∧
    (∀ mask : Word, Admitted .eventConfig c s → c.args = be 4 mask.toNat →
      let applied := mask ||| 1 ||| 128
      exec .eventConfig s = .next (complete .ok (be 4 applied.toNat) { s with
        events := { s.events with mask := applied } }))

/-- REPORT_FLUSH (R131, R158): refused in CLOSED; in OPEN and HOLD with a full report queue its trigger is dropped and the
answer says no record; otherwise the command is held for the run it triggers. A broadcast gives its trigger and completes
without a response. -/
def Obligations.ReportFlushTriggersARun : Prop :=
  ∀ (c : Command) (s : State),
    (Admitted .reportFlush c s →
      (s.session.state = .closed → exec .reportFlush s =
        .next (complete .wrongState [partCode s.part.state, sessionCode .closed] s)) ∧
      (s.session.state ≠ .closed → 16 ≤ s.session.queue.length → exec .reportFlush s =
        .next (complete .ok [0, 0, 0, 0] { s with builder := { s.builder with dropped := s.builder.dropped + 1 } })) ∧
      (s.session.state ≠ .closed → s.session.queue.length < 16 → exec .reportFlush s =
        .next { trigger ⟨false, true, false⟩ s with agent := { s.agent with held := some .flush } })) ∧
    (∀ n fate, AdmittedBroadcast .reportFlush c n fate s → exec .reportFlush s =
      .next { trigger ⟨false, true, false⟩ s with agent := { s.agent with queue := s.agent.queue.tail } })

/-- PART_RESET (R171): addressed, its response is formed and the reset is pending with 10 ms to its deadline; a broadcast
forms no response and waits for its downstream copy, or for the deadline alone when that copy was lost, and resets the part
at once when that copy has already been sent; the copy is known by the model's number (assumption log 10). While a reset is pending no further command begins. -/
def Obligations.PartResetWaitsForItsMoment : Prop :=
  ∀ (c : Command) (s : State),
    (Admitted .partReset c s → ∃ t, exec .partReset s = .next t ∧ beginning t = none ∧
      t = { s with agent := { (completeAs true .ok [] s).agent with resetPending := some ⟨10, none⟩ } } ∧
      (s.agent.responses.length < 4 → t.agent = { s.agent with
        responses := s.agent.responses ++ [⟨⟨c.tag, c.code, .ok, []⟩, true, true⟩]
        retained := some ⟨c.tag, c.code, .ok, []⟩, queue := s.agent.queue.tail, held := none
        resetPending := some ⟨10, none⟩ }) ∧
      (4 ≤ s.agent.responses.length → t.agent = { s.agent with
        waiting := some ⟨⟨c.tag, c.code, .ok, []⟩, true, true⟩, held := none, resetPending := some ⟨10, none⟩ })) ∧
    (∀ n, AdmittedBroadcast .partReset c n .buffered s → exec .partReset s = .next { s with agent := { s.agent with
      queue := s.agent.queue.tail, resetPending := some ⟨10, some n⟩ } }) ∧
    (∀ n, AdmittedBroadcast .partReset c n .lost s → exec .partReset s = .next { s with agent := { s.agent with
      queue := s.agent.queue.tail, resetPending := some ⟨10, none⟩ } }) ∧
    (∀ n, AdmittedBroadcast .partReset c n .completed s →
      ∃ t, exec .partReset s = .next t ∧ FullyReset .command s t)

/-- CIRCUIT_READ, REFERENCE_READ and METERING_CLEAR (R104, R169): each places its claim behind those waiting and is held
until it is taken; METERING_CLEAR is refused while the session is OPEN or in HOLD. The read claims (R79, R103): the
values at the boundary complete the command held for that circuit or reference; no state but the claim order and the
agent moves. The metering clear claim (R105): every circuit takes its cleared state and the closing list is emptied;
the response carries the pending units of the 96 circuits and the units of the closing entries, by direction;
CIRCUIT_UNBLOCKED is posted for every blocked direction, circuit by circuit, IMPORT first (assumption log 8). Plan,
references, session and queue stay. A field holds its number modulo its width (assumption log 17). The codes of the census
states (R197). For a reference whose stored enabled field a disturbance cleared, the REFERENCE_READ_CLAIM clause is the
model's choice (assumption log 23): its ring and census are read as they stand, where R79 says IDLE, an empty ring and
values 0. -/
def Obligations.ReadsAndClearsAnswerAtTheBoundary : Prop :=
  (∀ (c : Command) (s : State),
     (∀ x : Fin 96, Admitted .circuitRead c s → c.args = [BitVec.ofNat 8 x.val] → exec .circuitRead s = .next { s with
       engine := { s.engine with claims := s.engine.claims ++ [.circuitRead x] }
       agent := { s.agent with held := some (.circuitRead x) } }) ∧
     (∀ x : Fin 16, Admitted .referenceRead c s → c.args = [BitVec.ofNat 8 x.val] → exec .referenceRead s = .next { s with
       engine := { s.engine with claims := s.engine.claims ++ [.referenceRead x] }
       agent := { s.agent with held := some (.referenceRead x) } }) ∧
     (Admitted .meteringClear c s →
       (s.session.state = .closed → exec .meteringClear s = .next { s with
         engine := { s.engine with claims := s.engine.claims ++ [.meteringClear] }
         agent := { s.agent with held := some .meteringClear } }) ∧
       (s.session.state ≠ .closed → exec .meteringClear s = .next (complete .wrongState
         [partCode s.part.state, sessionCode s.session.state] s)))) ∧
  (∀ (rest : List Claim) (s : State), s.engine.metering = none →
     (∀ c, s.engine.claims = .circuitRead c :: rest →
       let r := circuitRecord s.plan.active.contents c
       let x := s.circ c
       let flag (b : Bool) : List Byte := [if b then 1 else 0]
       let direction (d : DirState) : List Byte := be 6 d.accumulator ++ be 1 d.partialCount ++ be 3 d.pending ++
         be 3 d.inFlight ++ flag d.blocked ++ flag d.test ++ flag d.holdover ++ be 4 d.suppressed.toNat ++ be 6 d.satLoss ++
         be 6 d.floorDiscarded
       let results := be 1 c.val ++ flag r.enabled ++ be 4 r.account.toNat ++ be 1 r.reference.val ++ direction x.imp ++
         direction x.exp ++ be 6 x.floorAcc ++ [if x.floor = .active then 0 else 1] ++ be 1 x.park.length ++
         be 2 ((x.park.head?.map fun q => q.scan.toNat).getD 0) ++ be 2 ((x.park.getLast?.map fun q => q.scan.toNat).getD 0) ++
         be 4 x.paired.toNat ++ be 4 x.missed.toNat ++ be 4 x.unqualified.toNat ++ be 4 x.flushed.toNat ++
         be 4 x.duplicate.toNat
       results.length = 103 ∧ exec .circuitReadClaim s =
         .next (completeHeld (.circuitRead c) .ok results { s with engine := { s.engine with claims := rest } })) ∧
     (∀ r, s.engine.claims = .referenceRead r :: rest →
       let x := s.ref r
       let k := x.census
       let newest := x.ring.getLast?
       let results := be 1 r.val ++ [censusCode k.state] ++ be 1 x.ring.length ++
         be 2 ((x.ring.head?.map fun y => y.scan.toNat).getD 0) ++ be 2 ((newest.map fun y => y.scan.toNat).getD 0) ++
         be 2 ((newest.map fun y => y.value.toNat).getD 0) ++ be 2 ((k.lastCrossing.map fun h => h.toNat).getD 0) ++
         [if k.lastCrossing = none then 0 else 1] ++ be 1 k.periods ++ be 1 k.shorts ++ be 2 k.lastPeriod ++
         be 3 k.lastShort ++ be 3 k.lastLong ++ be 4 x.stored.toNat ++ be 4 x.duplicates.toNat ++ be 4 x.late.toNat ++
         be 4 x.gaps.toNat
       results.length = 38 ∧ exec .referenceReadClaim s =
         .next (completeHeld (.referenceRead r) .ok results { s with engine := { s.engine with claims := rest } }))) ∧
  (∀ (rest : List Claim) (s : State), s.engine.metering = none → s.engine.claims = .meteringClear :: rest →
     s.circuits.length = 96 →
     let imports := (s.circuits.map fun x => x.imp.pending).sum + (s.builder.closings.map Closing.impUnits).sum
     let exports := (s.circuits.map fun x => x.exp.pending).sum + (s.builder.closings.map Closing.expUnits).sum
     ∃ t, exec .meteringClearClaim s = .next t ∧ t.circuits = List.replicate 96 .cleared ∧
       t.builder = { s.builder with closings := [] } ∧ t.engine = { s.engine with claims := rest } ∧
       t.agent = (completeHeld .meteringClear .ok (be 4 imports ++ be 4 exports) s).agent ∧
       t.events = ((allCircuits.flatMap fun c => [(c, Direction.imp), (c, .exp)]).filter fun v =>
         ((s.circ v.1).dir v.2).blocked).foldl (fun e v =>
           posted .circuitUnblocked (BitVec.ofNat 16 v.1.val) (if v.2 = .imp then 0 else 1) s.part e) s.events ∧
       t.part = s.part ∧ t.links = s.links ∧ t.sync = s.sync ∧ t.refs = s.refs ∧ t.plan = s.plan ∧ t.session = s.session ∧
       t.pending = s.pending) ∧
  (∀ x ∈ ([(.idle, 0), (.unchecked, 1), (.qualifying, 2), (.qualified, 3), (.outOfBand, 4), (.lost, 5)] :
     List (CensusState × Byte)), censusCode x.1 = x.2)

/-! ### Events (chapter 10) -/

/-- A posting (R172 to R174): no state of BYPASS, STARTING or PASSIVE takes one; a masked kind is discarded, STARTED and
PLAN_FAULT never; where waiting records have its kind and subject, exactly one of them takes it and nothing else of the queue
moves, the only one where one waits, and of several (after an aborted EVENT frame) whichever the free value picks, which
R174 leaves open (assumption log 5); otherwise it makes a record at the tail with room, or is lost and counted. -/
def Obligations.PostingsCoalesceJoinOrAreLost : Prop :=
  ∀ (k : EventKind) (subject : Half) (value : Word) (p : PartController) (e : Events),
    let takes := p.state = .defect ∨ p.state = .idle ∨ p.state = .metering ∨ p.state = .faulted
    let passes := k = .started ∨ k = .planFault ∨ e.mask.getLsbD (eventCode k) = true
    let same (r : EventRecord) : Prop := r.kind = k ∧ r.subject = subject ∧ r.carried = false
    (¬ takes ∨ ¬ passes → posted k subject value p e = e) ∧
    (takes → passes →
      (∀ before r after, e.queue = before ++ r :: after → same r → (∀ x ∈ before, ¬ same x) → (∀ x ∈ after, ¬ same x) →
        posted k subject value p e = { e with queue := before ++
          { r with repeats := min (r.repeats + 1) 255, stamp := p.ms, value := value } :: after }) ∧
      ((∃ x ∈ e.queue, same x) → ∃ before r after, e.queue = before ++ r :: after ∧ same r ∧
        posted k subject value p e = { e with queue := before ++
          { r with repeats := min (r.repeats + 1) 255, stamp := p.ms, value := value } :: after }) ∧
      ((∀ x ∈ e.queue, ¬ same x) →
        (e.queue.length < 32 → posted k subject value p e =
          { e with queue := e.queue ++ [⟨k, subject, 0, p.ms, value, false⟩] }) ∧
        (32 ≤ e.queue.length → posted k subject value p e =
          { e with lost := min (e.lost + 1) 65535, lostCounter := e.lostCounter + 1 })))

/-! ### Invariants that every step keeps -/

/-- Every block stays within its places (R11, R12, R28, R65, R87, R121, R132, R156, R161, R174). -/
def Obligations.EveryStepKeepsTheCapacities : Prop :=
  ∀ s t : State, Capacities s → step s = .next t → Capacities t

/-- Both plan banks keep their shape and their key order (R37, R38). -/
def Obligations.EveryStepKeepsTheBanksWellFormed : Prop :=
  ∀ s t : State, PlanBanksWf s → step s = .next t → PlanBanksWf t

/-- Every ring and every park queue stays in scan order without a repeat (R65, R87). -/
def Obligations.EveryStepKeepsTheScansInOrder : Prop :=
  ∀ s t : State, s.circuits.length = 96 → s.refs.length = 16 → ScansInOrder s → step s = .next t → ScansInOrder t

/-- Each timer runs where its rule lets it, and the scrubber is STOPPED exactly outside METERING (2.2, R60, R124, R138,
R148). -/
def Obligations.EveryStepKeepsTheTimersFitting : Prop :=
  ∀ s t : State, step s = .next t → (TimersFit s → TimersFit t) ∧ (ScrubberFits s → ScrubberFits t)

/-- The report queue stays consecutive and of one session (R121, R138), and no circuit has two closing entries (R132). -/
def Obligations.EveryStepKeepsTheReportQueueConsecutive : Prop :=
  ∀ s t : State, step s = .next t → (QueueFits s → QueueFits t) ∧ (ClosingsDistinct s → ClosingsDistinct t)

/-- Every in-flight unit is named by exactly the records and claims that carry it (R99, R104, R145, R151), and no direction
owes more than the cap (R85, R98). -/
def Obligations.EveryStepKeepsTheUnitsBalanced : Prop :=
  ∀ s t : State, UnitsBalance s → step s = .next t → UnitsBalance t ∧ (OwedWithinCap s → OwedWithinCap t)

/-- Accumulators, saturation losses and floor totals stay within 48 bits (R92, R112). -/
def Obligations.EveryStepKeepsTheEnergyWithinBounds : Prop :=
  ∀ s t : State, s.circuits.length = 96 → EnergyWithinBounds s → step s = .next t → EnergyWithinBounds t

/-- PASSIVE and DEFECT are left only by a full reset (R189, R190): a part in PASSIVE keeps its reset values, and a part in
DEFECT stays in it, until a reset begins. -/
def Obligations.PassiveAndDefectEndOnlyByReset : Prop :=
  ∀ s t : State, step s = .next t →
    (PassiveKeeps s → PassiveKeeps t ∨ t.part.state = .bypass) ∧
    (ScrubberFits s → DefectHolds s → DefectHolds t ∨ t.part.state = .bypass)

/-- The part right after reset meets every invariant, and holds what a full reset with cause POWER leaves. That it starts
with the supply not yet good is the model's choice (assumption log 2). -/
def Obligations.ResetMeetsTheInvariants : Prop :=
  Capacities .reset ∧ PlanBanksWf .reset ∧ ScansInOrder .reset ∧ TimersFit .reset ∧ ScrubberFits .reset ∧
    QueueFits .reset ∧ ClosingsDistinct .reset ∧ UnitsBalance .reset ∧ OwedWithinCap .reset ∧
    EnergyWithinBounds .reset ∧ FullyReset .power State.reset State.reset

end
end

