-- ==== Sys2Proof/Laws/Octets.lean ====
section
/-! SUPPORT. What the octet operations do: the settled fold is the plain fold, fields have their widths, a pass may be read in pieces, and the empty bank's check value is the one R37 names. -/

namespace Sys2Proof.Machine

/-- The settled fold is the plain left fold. -/
theorem foldOctets_eq_foldl (f : Nat → Byte → Nat) (l : List Byte) (n : Nat) : foldOctets f l n = l.foldl f n := by
  induction l generalizing n with
  | nil => rfl
  | cons b bs ih =>
    rw [foldOctets, List.foldl_cons]
    split <;> rename_i h <;> rw [ih, h]

/-- A field has its width (chapter 12). -/
@[simp] theorem be_length (n v : Nat) : (be n v).length = n := by
  induction n with
  | zero => rfl
  | succ n ih => simp [be, ih]

/-- The running check over octets, as a plain fold (R198). -/
theorem crc32Run_eq (r : Word) (l : List Byte) : crc32Run r l = l.foldl crc32Octet r := by
  have key : ∀ (l : List Byte) (r : Word),
      l.foldl (fun n b => (crc32Octet (BitVec.ofNat 32 n) b).toNat) r.toNat = (l.foldl crc32Octet r).toNat := by
    intro l
    induction l with
    | nil => intro r; rfl
    | cons b bs ih => intro r; simp only [List.foldl_cons, BitVec.ofNat_toNat, BitVec.setWidth_eq]; exact ih _
  rw [crc32Run, foldOctets_eq_foldl, key, BitVec.ofNat_toNat, BitVec.setWidth_eq]

/-- A pass read in two pieces computes what it computes in one (R61). -/
theorem crc32Run_append (r : Word) (a b : List Byte) : crc32Run r (a ++ b) = crc32Run (crc32Run r a) b := by
  rw [crc32Run_eq, crc32Run_eq, crc32Run_eq, List.foldl_append]

/-- A stream entry takes four octets (R198). -/
@[simp] theorem streamOctets_length (e : StreamEntry) : (streamOctets e).length = 4 := by
  unfold streamOctets; split <;> rfl

/-- A circuit record takes 29 octets (R166, R198). -/
@[simp] theorem circuitOctets_length (r : CircuitRecord) : (circuitOctets r).length = 29 := by simp [circuitOctets]

/-- A reference record takes 8 octets (R166, R198). -/
@[simp] theorem refOctets_length (r : RefRecord) : (refOctets r).length = 8 := by simp [refOctets]

/-- The empty bank serializes to 2,914 octets of 0 (R198). -/
theorem serialize_empty : serialize emptyContents = List.replicate 2914 0 := by decide +kernel

/-- The check value of the empty bank is the CRC-32 of its serialization (R37, R198). -/
theorem emptyCheck_is_crc32 : planCheck emptyContents = emptyCheck := by decide +kernel

end Sys2Proof.Machine
end

