-- ==== Sys2Proof/Laws/Commands.lean ====
section
/-! SUPPORT. Laws of the tests and shared operations that the statements about commands, sessions, events and resets rest on: what admits a command, what a full reset leaves, where a posting coalesces. -/

namespace Sys2Proof.Machine

/-- The ports run outside BYPASS and STARTING. -/
theorem running_iff (s : State) : running s = true ↔ s.part.state ≠ .bypass ∧ s.part.state ≠ .starting := by
  unfold running
  cases s.part.state <;> simp

/-- The session carries records outside CLOSED. -/
theorem sessionLive_iff (s : State) : sessionLive s = true ↔ s.session.state ≠ .closed := by
  unfold sessionLive
  cases s.session.state <;> simp

/-- The builder accepts a trigger outside CLOSED with a place in the report queue. -/
theorem builderAccepts_iff (s : State) :
    builderAccepts s = true ↔ s.session.state ≠ .closed ∧ s.session.queue.length < 16 := by
  simp [builderAccepts, sessionLive_iff]

/-- The base is the sequence of the oldest record, or the next sequence. -/
theorem base_eq (q : Session) : q.base = (q.queue.head?.map Record.sequence).getD q.next := by
  unfold Session.base
  cases q.queue <;> rfl

/-- The tap address as an octet. -/
theorem tapOctet_eq (t : BitVec 5) : BitVec.ofNat 8 t.toNat = t.setWidth 8 :=
  BitVec.eq_of_toNat_eq (by simp)

/-- A closing entry is carried by records when one of them has the sequence it is bound to. -/
theorem carriedBy_eq (rs : List Record) (k : Closing) : carriedBy rs k = rs.any fun r => k.bound == some r.sequence := by
  unfold carriedBy
  cases h : k.bound with
  | none => simp
  | some q =>
    simp only
    congr 1
    funext r
    rw [Bool.eq_iff_iff]
    simp only [beq_iff_eq, Option.some.injEq]
    exact eq_comm

/-- A command that passes the checks is carried out by its owner. -/
theorem checked_of_admitted {k : CommandCode} {c : Command} {s : State} (h : Admitted k c s)
    (owner : List Byte → State → State) : checked k owner c s = owner c.args s := by
  have hs : ¬ (s.part.state = .defect ∧ k ≠ .statusRead) := by
    rcases h.state with hd | hk
    · exact fun x => hd x.1
    · exact fun x => x.2 hk
  simp only [checked, h.length, hs, h.ranges]
  simp

/-- The row of an admitted command answers what its owner does. -/
theorem answered_of_admitted {k : CommandCode} {c : Command} {s : State} (h : Admitted k c s)
    (owner : List Byte → State → State) : answered k owner s = .next (owner c.args s) := by
  simp only [answered, begins, h.begins, occurs, h.code, beq_self_eq_true, if_true, checked_of_admitted h]

/-- The first command of the queue begins only with nothing held, no response waiting and no reset pending. -/
theorem beginning_some {c : Command} {s : State} (h : beginning s = some c) :
    s.agent.held = none ∧ s.agent.waiting = none ∧ s.agent.resetPending = none ∧ s.agent.queue.head? = some c := by
  unfold beginning at h
  split at h
  · exact ⟨‹_›, ‹_›, ‹_›, h⟩
  · cases h

/-- What a full reset leaves, field by field. -/
theorem fullReset_fullyReset (cause : ResetCause) (s : State) : FullyReset cause s (fullReset cause s) where
  state := rfl
  cause := rfl
  counter := rfl
  bypass := by cases cause <;> rfl
  tap := rfl
  selfCheck := rfl
  relay := rfl
  field := rfl
  head := rfl
  links := ⟨rfl, rfl, rfl, rfl, rfl, rfl⟩
  sync := rfl
  engine := rfl
  circuits := rfl
  references := rfl
  banks := by
    rw [emptyCheck_is_crc32]
    rfl
  builder := rfl
  session := rfl
  agent := ⟨rfl, rfl, rfl, rfl, rfl, rfl, rfl, rfl, rfl, rfl, rfl⟩
  events := rfl
  pending := rfl

/-- The first element that satisfies p is the one updated at place 0. -/
theorem updateMatch_zero_at {α : Type} (p : α → Bool) (f : α → α) (before : List α) (x : α) (rest : List α)
    (none_before : ∀ y ∈ before, p y = false) (hx : p x = true) :
    updateMatch p f 0 (before ++ x :: rest) = before ++ f x :: rest := by
  induction before with
  | nil => simp [updateMatch, hx]
  | cons y ys ih =>
    have hy : p y = false := none_before y (by simp)
    simp [updateMatch, hy, ih fun z hz => none_before z (by simp [hz])]

/-- With more than n elements that satisfy p, an update at place n changes one of them and nothing else. -/
theorem updateMatch_one {α : Type} (p : α → Bool) (f : α → α) (n : Nat) (l : List α) (h : n < (l.filter p).length) :
    ∃ before x after, l = before ++ x :: after ∧ p x = true ∧ updateMatch p f n l = before ++ f x :: after := by
  induction l generalizing n with
  | nil => simp at h
  | cons y ys ih =>
    have skip (m : Nat) (hm : m < (ys.filter p).length) (hu : updateMatch p f n (y :: ys) = y :: updateMatch p f m ys) :
        ∃ before x after, y :: ys = before ++ x :: after ∧ p x = true ∧
          updateMatch p f n (y :: ys) = before ++ f x :: after := by
      obtain ⟨before, x, after, rfl, hx, he⟩ := ih m hm
      exact ⟨y :: before, x, after, rfl, hx, by rw [hu, he]; rfl⟩
    by_cases hy : p y = true
    · cases n with
      | zero => exact ⟨[], y, ys, rfl, hy, by simp [updateMatch, hy]⟩
      | succ m => exact skip m (by simpa [List.filter_cons, hy] using h) (by simp [updateMatch, hy])
    · refine skip n (by simpa [List.filter_cons, hy] using h) ?_
      cases n <;> simp [updateMatch, hy]

/-- Where a waiting record of its kind and subject stands in the queue, a posting changes exactly one such record,
whichever the free value picks (R174). -/
theorem coalesceInto_one (k : EventKind) (subject : Half) (stamp value : Word) (q : List EventRecord)
    (h : q.any (matchesPosting k subject) = true) :
    ∃ before r after, q = before ++ r :: after ∧ matchesPosting k subject r = true ∧
      coalesceInto k subject stamp value q = before ++ coalesced stamp value r :: after := by
  have hpos : 0 < (q.filter (matchesPosting k subject)).length := by
    rw [List.any_eq_true] at h
    obtain ⟨x, hx, hm⟩ := h
    exact List.length_pos_of_mem (List.mem_filter.mpr ⟨hx, hm⟩)
  refine updateMatch_one _ _ _ q ?_
  split
  · exact hpos
  · exact Nat.mod_lt _ hpos

/-- An update at a matching place leaves the length. -/
@[simp] theorem length_updateMatch {α : Type} (p : α → Bool) (f : α → α) (n : Nat) (l : List α) :
    (updateMatch p f n l).length = l.length := by
  induction l generalizing n with
  | nil => cases n <;> rfl
  | cons x xs ih =>
    cases n with
    | zero =>
      by_cases h : p x = true
      · simp [updateMatch, h]
      · simp [updateMatch, h, ih]
    | succ n => simp [updateMatch, ih]

/-- A posting never makes the event queue longer than one record more, and never past its 32 places. -/
theorem length_posted (k : EventKind) (subject : Half) (value : Word) (p : PartController) (e : Events)
    (h : e.queue.length ≤ 32) : (posted k subject value p e).queue.length ≤ 32 := by
  unfold posted takePosting coalesceInto
  split
  · split
    · simpa using h
    · split
      · simp
        omega
      · exact h
  · exact h

end Sys2Proof.Machine
end

