-- ==== Sys2Proof/Laws/State.lean ====
section
/-! SUPPORT. One rewriting lemma per field for every update of the state (Machine/Ops.lean), so that no proof unfolds a record update. -/

namespace Sys2Proof.Machine

/-! ### onPart -/

@[simp] theorem State.onPart_part (f : PartController → PartController) (s : State) : (s.onPart f).part = f s.part := rfl
@[simp] theorem State.onPart_links (f : PartController → PartController) (s : State) : (s.onPart f).links = s.links := rfl
@[simp] theorem State.onPart_sync (f : PartController → PartController) (s : State) : (s.onPart f).sync = s.sync := rfl
@[simp] theorem State.onPart_engine (f : PartController → PartController) (s : State) : (s.onPart f).engine = s.engine := rfl
@[simp] theorem State.onPart_circuits (f : PartController → PartController) (s : State) : (s.onPart f).circuits = s.circuits := rfl
@[simp] theorem State.onPart_refs (f : PartController → PartController) (s : State) : (s.onPart f).refs = s.refs := rfl
@[simp] theorem State.onPart_plan (f : PartController → PartController) (s : State) : (s.onPart f).plan = s.plan := rfl
@[simp] theorem State.onPart_builder (f : PartController → PartController) (s : State) : (s.onPart f).builder = s.builder := rfl
@[simp] theorem State.onPart_session (f : PartController → PartController) (s : State) : (s.onPart f).session = s.session := rfl
@[simp] theorem State.onPart_agent (f : PartController → PartController) (s : State) : (s.onPart f).agent = s.agent := rfl
@[simp] theorem State.onPart_events (f : PartController → PartController) (s : State) : (s.onPart f).events = s.events := rfl
@[simp] theorem State.onPart_pending (f : PartController → PartController) (s : State) : (s.onPart f).pending = s.pending := rfl

/-! ### onLinks -/

@[simp] theorem State.onLinks_part (f : Links → Links) (s : State) : (s.onLinks f).part = s.part := rfl
@[simp] theorem State.onLinks_links (f : Links → Links) (s : State) : (s.onLinks f).links = f s.links := rfl
@[simp] theorem State.onLinks_sync (f : Links → Links) (s : State) : (s.onLinks f).sync = s.sync := rfl
@[simp] theorem State.onLinks_engine (f : Links → Links) (s : State) : (s.onLinks f).engine = s.engine := rfl
@[simp] theorem State.onLinks_circuits (f : Links → Links) (s : State) : (s.onLinks f).circuits = s.circuits := rfl
@[simp] theorem State.onLinks_refs (f : Links → Links) (s : State) : (s.onLinks f).refs = s.refs := rfl
@[simp] theorem State.onLinks_plan (f : Links → Links) (s : State) : (s.onLinks f).plan = s.plan := rfl
@[simp] theorem State.onLinks_builder (f : Links → Links) (s : State) : (s.onLinks f).builder = s.builder := rfl
@[simp] theorem State.onLinks_session (f : Links → Links) (s : State) : (s.onLinks f).session = s.session := rfl
@[simp] theorem State.onLinks_agent (f : Links → Links) (s : State) : (s.onLinks f).agent = s.agent := rfl
@[simp] theorem State.onLinks_events (f : Links → Links) (s : State) : (s.onLinks f).events = s.events := rfl
@[simp] theorem State.onLinks_pending (f : Links → Links) (s : State) : (s.onLinks f).pending = s.pending := rfl

/-! ### onSync -/

@[simp] theorem State.onSync_part (f : Sync → Sync) (s : State) : (s.onSync f).part = s.part := rfl
@[simp] theorem State.onSync_links (f : Sync → Sync) (s : State) : (s.onSync f).links = s.links := rfl
@[simp] theorem State.onSync_sync (f : Sync → Sync) (s : State) : (s.onSync f).sync = f s.sync := rfl
@[simp] theorem State.onSync_engine (f : Sync → Sync) (s : State) : (s.onSync f).engine = s.engine := rfl
@[simp] theorem State.onSync_circuits (f : Sync → Sync) (s : State) : (s.onSync f).circuits = s.circuits := rfl
@[simp] theorem State.onSync_refs (f : Sync → Sync) (s : State) : (s.onSync f).refs = s.refs := rfl
@[simp] theorem State.onSync_plan (f : Sync → Sync) (s : State) : (s.onSync f).plan = s.plan := rfl
@[simp] theorem State.onSync_builder (f : Sync → Sync) (s : State) : (s.onSync f).builder = s.builder := rfl
@[simp] theorem State.onSync_session (f : Sync → Sync) (s : State) : (s.onSync f).session = s.session := rfl
@[simp] theorem State.onSync_agent (f : Sync → Sync) (s : State) : (s.onSync f).agent = s.agent := rfl
@[simp] theorem State.onSync_events (f : Sync → Sync) (s : State) : (s.onSync f).events = s.events := rfl
@[simp] theorem State.onSync_pending (f : Sync → Sync) (s : State) : (s.onSync f).pending = s.pending := rfl

/-! ### onEngine -/

@[simp] theorem State.onEngine_part (f : Engine → Engine) (s : State) : (s.onEngine f).part = s.part := rfl
@[simp] theorem State.onEngine_links (f : Engine → Engine) (s : State) : (s.onEngine f).links = s.links := rfl
@[simp] theorem State.onEngine_sync (f : Engine → Engine) (s : State) : (s.onEngine f).sync = s.sync := rfl
@[simp] theorem State.onEngine_engine (f : Engine → Engine) (s : State) : (s.onEngine f).engine = f s.engine := rfl
@[simp] theorem State.onEngine_circuits (f : Engine → Engine) (s : State) : (s.onEngine f).circuits = s.circuits := rfl
@[simp] theorem State.onEngine_refs (f : Engine → Engine) (s : State) : (s.onEngine f).refs = s.refs := rfl
@[simp] theorem State.onEngine_plan (f : Engine → Engine) (s : State) : (s.onEngine f).plan = s.plan := rfl
@[simp] theorem State.onEngine_builder (f : Engine → Engine) (s : State) : (s.onEngine f).builder = s.builder := rfl
@[simp] theorem State.onEngine_session (f : Engine → Engine) (s : State) : (s.onEngine f).session = s.session := rfl
@[simp] theorem State.onEngine_agent (f : Engine → Engine) (s : State) : (s.onEngine f).agent = s.agent := rfl
@[simp] theorem State.onEngine_events (f : Engine → Engine) (s : State) : (s.onEngine f).events = s.events := rfl
@[simp] theorem State.onEngine_pending (f : Engine → Engine) (s : State) : (s.onEngine f).pending = s.pending := rfl

/-! ### onCircuits -/

@[simp] theorem State.onCircuits_part (f : List CircuitState → List CircuitState) (s : State) : (s.onCircuits f).part = s.part := rfl
@[simp] theorem State.onCircuits_links (f : List CircuitState → List CircuitState) (s : State) : (s.onCircuits f).links = s.links := rfl
@[simp] theorem State.onCircuits_sync (f : List CircuitState → List CircuitState) (s : State) : (s.onCircuits f).sync = s.sync := rfl
@[simp] theorem State.onCircuits_engine (f : List CircuitState → List CircuitState) (s : State) : (s.onCircuits f).engine = s.engine := rfl
@[simp] theorem State.onCircuits_circuits (f : List CircuitState → List CircuitState) (s : State) : (s.onCircuits f).circuits = f s.circuits := rfl
@[simp] theorem State.onCircuits_refs (f : List CircuitState → List CircuitState) (s : State) : (s.onCircuits f).refs = s.refs := rfl
@[simp] theorem State.onCircuits_plan (f : List CircuitState → List CircuitState) (s : State) : (s.onCircuits f).plan = s.plan := rfl
@[simp] theorem State.onCircuits_builder (f : List CircuitState → List CircuitState) (s : State) : (s.onCircuits f).builder = s.builder := rfl
@[simp] theorem State.onCircuits_session (f : List CircuitState → List CircuitState) (s : State) : (s.onCircuits f).session = s.session := rfl
@[simp] theorem State.onCircuits_agent (f : List CircuitState → List CircuitState) (s : State) : (s.onCircuits f).agent = s.agent := rfl
@[simp] theorem State.onCircuits_events (f : List CircuitState → List CircuitState) (s : State) : (s.onCircuits f).events = s.events := rfl
@[simp] theorem State.onCircuits_pending (f : List CircuitState → List CircuitState) (s : State) : (s.onCircuits f).pending = s.pending := rfl

/-! ### onRefs -/

@[simp] theorem State.onRefs_part (f : List RefState → List RefState) (s : State) : (s.onRefs f).part = s.part := rfl
@[simp] theorem State.onRefs_links (f : List RefState → List RefState) (s : State) : (s.onRefs f).links = s.links := rfl
@[simp] theorem State.onRefs_sync (f : List RefState → List RefState) (s : State) : (s.onRefs f).sync = s.sync := rfl
@[simp] theorem State.onRefs_engine (f : List RefState → List RefState) (s : State) : (s.onRefs f).engine = s.engine := rfl
@[simp] theorem State.onRefs_circuits (f : List RefState → List RefState) (s : State) : (s.onRefs f).circuits = s.circuits := rfl
@[simp] theorem State.onRefs_refs (f : List RefState → List RefState) (s : State) : (s.onRefs f).refs = f s.refs := rfl
@[simp] theorem State.onRefs_plan (f : List RefState → List RefState) (s : State) : (s.onRefs f).plan = s.plan := rfl
@[simp] theorem State.onRefs_builder (f : List RefState → List RefState) (s : State) : (s.onRefs f).builder = s.builder := rfl
@[simp] theorem State.onRefs_session (f : List RefState → List RefState) (s : State) : (s.onRefs f).session = s.session := rfl
@[simp] theorem State.onRefs_agent (f : List RefState → List RefState) (s : State) : (s.onRefs f).agent = s.agent := rfl
@[simp] theorem State.onRefs_events (f : List RefState → List RefState) (s : State) : (s.onRefs f).events = s.events := rfl
@[simp] theorem State.onRefs_pending (f : List RefState → List RefState) (s : State) : (s.onRefs f).pending = s.pending := rfl

/-! ### onPlan -/

@[simp] theorem State.onPlan_part (f : PlanStore → PlanStore) (s : State) : (s.onPlan f).part = s.part := rfl
@[simp] theorem State.onPlan_links (f : PlanStore → PlanStore) (s : State) : (s.onPlan f).links = s.links := rfl
@[simp] theorem State.onPlan_sync (f : PlanStore → PlanStore) (s : State) : (s.onPlan f).sync = s.sync := rfl
@[simp] theorem State.onPlan_engine (f : PlanStore → PlanStore) (s : State) : (s.onPlan f).engine = s.engine := rfl
@[simp] theorem State.onPlan_circuits (f : PlanStore → PlanStore) (s : State) : (s.onPlan f).circuits = s.circuits := rfl
@[simp] theorem State.onPlan_refs (f : PlanStore → PlanStore) (s : State) : (s.onPlan f).refs = s.refs := rfl
@[simp] theorem State.onPlan_plan (f : PlanStore → PlanStore) (s : State) : (s.onPlan f).plan = f s.plan := rfl
@[simp] theorem State.onPlan_builder (f : PlanStore → PlanStore) (s : State) : (s.onPlan f).builder = s.builder := rfl
@[simp] theorem State.onPlan_session (f : PlanStore → PlanStore) (s : State) : (s.onPlan f).session = s.session := rfl
@[simp] theorem State.onPlan_agent (f : PlanStore → PlanStore) (s : State) : (s.onPlan f).agent = s.agent := rfl
@[simp] theorem State.onPlan_events (f : PlanStore → PlanStore) (s : State) : (s.onPlan f).events = s.events := rfl
@[simp] theorem State.onPlan_pending (f : PlanStore → PlanStore) (s : State) : (s.onPlan f).pending = s.pending := rfl

/-! ### onBuilder -/

@[simp] theorem State.onBuilder_part (f : Builder → Builder) (s : State) : (s.onBuilder f).part = s.part := rfl
@[simp] theorem State.onBuilder_links (f : Builder → Builder) (s : State) : (s.onBuilder f).links = s.links := rfl
@[simp] theorem State.onBuilder_sync (f : Builder → Builder) (s : State) : (s.onBuilder f).sync = s.sync := rfl
@[simp] theorem State.onBuilder_engine (f : Builder → Builder) (s : State) : (s.onBuilder f).engine = s.engine := rfl
@[simp] theorem State.onBuilder_circuits (f : Builder → Builder) (s : State) : (s.onBuilder f).circuits = s.circuits := rfl
@[simp] theorem State.onBuilder_refs (f : Builder → Builder) (s : State) : (s.onBuilder f).refs = s.refs := rfl
@[simp] theorem State.onBuilder_plan (f : Builder → Builder) (s : State) : (s.onBuilder f).plan = s.plan := rfl
@[simp] theorem State.onBuilder_builder (f : Builder → Builder) (s : State) : (s.onBuilder f).builder = f s.builder := rfl
@[simp] theorem State.onBuilder_session (f : Builder → Builder) (s : State) : (s.onBuilder f).session = s.session := rfl
@[simp] theorem State.onBuilder_agent (f : Builder → Builder) (s : State) : (s.onBuilder f).agent = s.agent := rfl
@[simp] theorem State.onBuilder_events (f : Builder → Builder) (s : State) : (s.onBuilder f).events = s.events := rfl
@[simp] theorem State.onBuilder_pending (f : Builder → Builder) (s : State) : (s.onBuilder f).pending = s.pending := rfl

/-! ### onSession -/

@[simp] theorem State.onSession_part (f : Session → Session) (s : State) : (s.onSession f).part = s.part := rfl
@[simp] theorem State.onSession_links (f : Session → Session) (s : State) : (s.onSession f).links = s.links := rfl
@[simp] theorem State.onSession_sync (f : Session → Session) (s : State) : (s.onSession f).sync = s.sync := rfl
@[simp] theorem State.onSession_engine (f : Session → Session) (s : State) : (s.onSession f).engine = s.engine := rfl
@[simp] theorem State.onSession_circuits (f : Session → Session) (s : State) : (s.onSession f).circuits = s.circuits := rfl
@[simp] theorem State.onSession_refs (f : Session → Session) (s : State) : (s.onSession f).refs = s.refs := rfl
@[simp] theorem State.onSession_plan (f : Session → Session) (s : State) : (s.onSession f).plan = s.plan := rfl
@[simp] theorem State.onSession_builder (f : Session → Session) (s : State) : (s.onSession f).builder = s.builder := rfl
@[simp] theorem State.onSession_session (f : Session → Session) (s : State) : (s.onSession f).session = f s.session := rfl
@[simp] theorem State.onSession_agent (f : Session → Session) (s : State) : (s.onSession f).agent = s.agent := rfl
@[simp] theorem State.onSession_events (f : Session → Session) (s : State) : (s.onSession f).events = s.events := rfl
@[simp] theorem State.onSession_pending (f : Session → Session) (s : State) : (s.onSession f).pending = s.pending := rfl

/-! ### onAgent -/

@[simp] theorem State.onAgent_part (f : Agent → Agent) (s : State) : (s.onAgent f).part = s.part := rfl
@[simp] theorem State.onAgent_links (f : Agent → Agent) (s : State) : (s.onAgent f).links = s.links := rfl
@[simp] theorem State.onAgent_sync (f : Agent → Agent) (s : State) : (s.onAgent f).sync = s.sync := rfl
@[simp] theorem State.onAgent_engine (f : Agent → Agent) (s : State) : (s.onAgent f).engine = s.engine := rfl
@[simp] theorem State.onAgent_circuits (f : Agent → Agent) (s : State) : (s.onAgent f).circuits = s.circuits := rfl
@[simp] theorem State.onAgent_refs (f : Agent → Agent) (s : State) : (s.onAgent f).refs = s.refs := rfl
@[simp] theorem State.onAgent_plan (f : Agent → Agent) (s : State) : (s.onAgent f).plan = s.plan := rfl
@[simp] theorem State.onAgent_builder (f : Agent → Agent) (s : State) : (s.onAgent f).builder = s.builder := rfl
@[simp] theorem State.onAgent_session (f : Agent → Agent) (s : State) : (s.onAgent f).session = s.session := rfl
@[simp] theorem State.onAgent_agent (f : Agent → Agent) (s : State) : (s.onAgent f).agent = f s.agent := rfl
@[simp] theorem State.onAgent_events (f : Agent → Agent) (s : State) : (s.onAgent f).events = s.events := rfl
@[simp] theorem State.onAgent_pending (f : Agent → Agent) (s : State) : (s.onAgent f).pending = s.pending := rfl

/-! ### onEvents -/

@[simp] theorem State.onEvents_part (f : Events → Events) (s : State) : (s.onEvents f).part = s.part := rfl
@[simp] theorem State.onEvents_links (f : Events → Events) (s : State) : (s.onEvents f).links = s.links := rfl
@[simp] theorem State.onEvents_sync (f : Events → Events) (s : State) : (s.onEvents f).sync = s.sync := rfl
@[simp] theorem State.onEvents_engine (f : Events → Events) (s : State) : (s.onEvents f).engine = s.engine := rfl
@[simp] theorem State.onEvents_circuits (f : Events → Events) (s : State) : (s.onEvents f).circuits = s.circuits := rfl
@[simp] theorem State.onEvents_refs (f : Events → Events) (s : State) : (s.onEvents f).refs = s.refs := rfl
@[simp] theorem State.onEvents_plan (f : Events → Events) (s : State) : (s.onEvents f).plan = s.plan := rfl
@[simp] theorem State.onEvents_builder (f : Events → Events) (s : State) : (s.onEvents f).builder = s.builder := rfl
@[simp] theorem State.onEvents_session (f : Events → Events) (s : State) : (s.onEvents f).session = s.session := rfl
@[simp] theorem State.onEvents_agent (f : Events → Events) (s : State) : (s.onEvents f).agent = s.agent := rfl
@[simp] theorem State.onEvents_events (f : Events → Events) (s : State) : (s.onEvents f).events = f s.events := rfl
@[simp] theorem State.onEvents_pending (f : Events → Events) (s : State) : (s.onEvents f).pending = s.pending := rfl

/-! ### onPort -/

@[simp] theorem State.onPort_part (p : PortId) (f : Port → Port) (s : State) : (s.onPort p f).part = s.part := rfl
@[simp] theorem State.onPort_links (p : PortId) (f : Port → Port) (s : State) :
    (s.onPort p f).links = s.links.onPort p f := rfl
@[simp] theorem State.onPort_sync (p : PortId) (f : Port → Port) (s : State) : (s.onPort p f).sync = s.sync := rfl
@[simp] theorem State.onPort_engine (p : PortId) (f : Port → Port) (s : State) : (s.onPort p f).engine = s.engine := rfl
@[simp] theorem State.onPort_circuits (p : PortId) (f : Port → Port) (s : State) : (s.onPort p f).circuits = s.circuits := rfl
@[simp] theorem State.onPort_refs (p : PortId) (f : Port → Port) (s : State) : (s.onPort p f).refs = s.refs := rfl
@[simp] theorem State.onPort_plan (p : PortId) (f : Port → Port) (s : State) : (s.onPort p f).plan = s.plan := rfl
@[simp] theorem State.onPort_builder (p : PortId) (f : Port → Port) (s : State) : (s.onPort p f).builder = s.builder := rfl
@[simp] theorem State.onPort_session (p : PortId) (f : Port → Port) (s : State) : (s.onPort p f).session = s.session := rfl
@[simp] theorem State.onPort_agent (p : PortId) (f : Port → Port) (s : State) : (s.onPort p f).agent = s.agent := rfl
@[simp] theorem State.onPort_events (p : PortId) (f : Port → Port) (s : State) : (s.onPort p f).events = s.events := rfl
@[simp] theorem State.onPort_pending (p : PortId) (f : Port → Port) (s : State) : (s.onPort p f).pending = s.pending := rfl
@[simp] theorem Links.onPort_breakTimer (p : PortId) (f : Port → Port) (l : Links) : (l.onPort p f).breakTimer = l.breakTimer := by
  cases p <;> rfl
@[simp] theorem Links.onPort_up (p : PortId) (f : Port → Port) (l : Links) : (l.onPort p f).up = l.up := by
  cases p <;> rfl
@[simp] theorem Links.onPort_down (p : PortId) (f : Port → Port) (l : Links) : (l.onPort p f).down = l.down := by
  cases p <;> rfl
@[simp] theorem Links.onPort_fieldTx (p : PortId) (f : Port → Port) (l : Links) : (l.onPort p f).fieldTx = l.fieldTx := by
  cases p <;> rfl
@[simp] theorem Links.onPort_headTx (p : PortId) (f : Port → Port) (l : Links) : (l.onPort p f).headTx = l.headTx := by
  cases p <;> rfl
@[simp] theorem Links.onPort_lastServed (p : PortId) (f : Port → Port) (l : Links) : (l.onPort p f).lastServed = l.lastServed := by
  cases p <;> rfl
@[simp] theorem Links.onPort_field_field (f : Port → Port) (l : Links) : (l.onPort .field f).field = f l.field := rfl
@[simp] theorem Links.onPort_field_head (f : Port → Port) (l : Links) : (l.onPort .field f).head = l.head := rfl
@[simp] theorem Links.onPort_head_head (f : Port → Port) (l : Links) : (l.onPort .head f).head = f l.head := rfl
@[simp] theorem Links.onPort_head_field (f : Port → Port) (l : Links) : (l.onPort .head f).field = l.field := rfl

/-- An updated port reads as updated. -/
@[simp] theorem State.port_onPort_self (p : PortId) (f : Port → Port) (s : State) :
    (s.onPort p f).port p = f (s.port p) := by cases p <;> rfl

/-- The other port reads as before. -/
theorem State.port_onPort_of_ne (p q : PortId) (f : Port → Port) (s : State) (h : q ≠ p) :
    (s.onPort p f).port q = s.port q := by cases p <;> cases q <;> first | rfl | exact absurd rfl h

/-! ### onScanCounters, onCirc, onDir and onRef -/

@[simp] theorem State.onScanCounters_part (f : ScanCounters → ScanCounters) (s : State) :
    (s.onScanCounters f).part = s.part := rfl
@[simp] theorem State.onScanCounters_links (f : ScanCounters → ScanCounters) (s : State) :
    (s.onScanCounters f).links = s.links := rfl
@[simp] theorem State.onScanCounters_sync (f : ScanCounters → ScanCounters) (s : State) :
    (s.onScanCounters f).sync = s.sync := rfl
@[simp] theorem State.onScanCounters_engine (f : ScanCounters → ScanCounters) (s : State) :
    (s.onScanCounters f).engine = { s.engine with counters := f s.engine.counters } := rfl
@[simp] theorem State.onScanCounters_circuits (f : ScanCounters → ScanCounters) (s : State) :
    (s.onScanCounters f).circuits = s.circuits := rfl
@[simp] theorem State.onScanCounters_refs (f : ScanCounters → ScanCounters) (s : State) :
    (s.onScanCounters f).refs = s.refs := rfl
@[simp] theorem State.onScanCounters_plan (f : ScanCounters → ScanCounters) (s : State) :
    (s.onScanCounters f).plan = s.plan := rfl
@[simp] theorem State.onScanCounters_builder (f : ScanCounters → ScanCounters) (s : State) :
    (s.onScanCounters f).builder = s.builder := rfl
@[simp] theorem State.onScanCounters_session (f : ScanCounters → ScanCounters) (s : State) :
    (s.onScanCounters f).session = s.session := rfl
@[simp] theorem State.onScanCounters_agent (f : ScanCounters → ScanCounters) (s : State) :
    (s.onScanCounters f).agent = s.agent := rfl
@[simp] theorem State.onScanCounters_events (f : ScanCounters → ScanCounters) (s : State) :
    (s.onScanCounters f).events = s.events := rfl
@[simp] theorem State.onScanCounters_pending (f : ScanCounters → ScanCounters) (s : State) :
    (s.onScanCounters f).pending = s.pending := rfl
@[simp] theorem State.onCirc_part (c : Fin 96) (f : CircuitState → CircuitState) (s : State) :
    (s.onCirc c f).part = s.part := rfl
@[simp] theorem State.onCirc_links (c : Fin 96) (f : CircuitState → CircuitState) (s : State) :
    (s.onCirc c f).links = s.links := rfl
@[simp] theorem State.onCirc_sync (c : Fin 96) (f : CircuitState → CircuitState) (s : State) :
    (s.onCirc c f).sync = s.sync := rfl
@[simp] theorem State.onCirc_engine (c : Fin 96) (f : CircuitState → CircuitState) (s : State) :
    (s.onCirc c f).engine = s.engine := rfl
@[simp] theorem State.onCirc_refs (c : Fin 96) (f : CircuitState → CircuitState) (s : State) :
    (s.onCirc c f).refs = s.refs := rfl
@[simp] theorem State.onCirc_plan (c : Fin 96) (f : CircuitState → CircuitState) (s : State) :
    (s.onCirc c f).plan = s.plan := rfl
@[simp] theorem State.onCirc_builder (c : Fin 96) (f : CircuitState → CircuitState) (s : State) :
    (s.onCirc c f).builder = s.builder := rfl
@[simp] theorem State.onCirc_session (c : Fin 96) (f : CircuitState → CircuitState) (s : State) :
    (s.onCirc c f).session = s.session := rfl
@[simp] theorem State.onCirc_agent (c : Fin 96) (f : CircuitState → CircuitState) (s : State) :
    (s.onCirc c f).agent = s.agent := rfl
@[simp] theorem State.onCirc_events (c : Fin 96) (f : CircuitState → CircuitState) (s : State) :
    (s.onCirc c f).events = s.events := rfl
@[simp] theorem State.onCirc_pending (c : Fin 96) (f : CircuitState → CircuitState) (s : State) :
    (s.onCirc c f).pending = s.pending := rfl
@[simp] theorem State.onDir_part (c : Fin 96) (d : Direction) (f : DirState → DirState) (s : State) :
    (s.onDir c d f).part = s.part := rfl
@[simp] theorem State.onDir_links (c : Fin 96) (d : Direction) (f : DirState → DirState) (s : State) :
    (s.onDir c d f).links = s.links := rfl
@[simp] theorem State.onDir_sync (c : Fin 96) (d : Direction) (f : DirState → DirState) (s : State) :
    (s.onDir c d f).sync = s.sync := rfl
@[simp] theorem State.onDir_engine (c : Fin 96) (d : Direction) (f : DirState → DirState) (s : State) :
    (s.onDir c d f).engine = s.engine := rfl
@[simp] theorem State.onDir_refs (c : Fin 96) (d : Direction) (f : DirState → DirState) (s : State) :
    (s.onDir c d f).refs = s.refs := rfl
@[simp] theorem State.onDir_plan (c : Fin 96) (d : Direction) (f : DirState → DirState) (s : State) :
    (s.onDir c d f).plan = s.plan := rfl
@[simp] theorem State.onDir_builder (c : Fin 96) (d : Direction) (f : DirState → DirState) (s : State) :
    (s.onDir c d f).builder = s.builder := rfl
@[simp] theorem State.onDir_session (c : Fin 96) (d : Direction) (f : DirState → DirState) (s : State) :
    (s.onDir c d f).session = s.session := rfl
@[simp] theorem State.onDir_agent (c : Fin 96) (d : Direction) (f : DirState → DirState) (s : State) :
    (s.onDir c d f).agent = s.agent := rfl
@[simp] theorem State.onDir_events (c : Fin 96) (d : Direction) (f : DirState → DirState) (s : State) :
    (s.onDir c d f).events = s.events := rfl
@[simp] theorem State.onDir_pending (c : Fin 96) (d : Direction) (f : DirState → DirState) (s : State) :
    (s.onDir c d f).pending = s.pending := rfl
@[simp] theorem State.onRef_part (r : Fin 16) (f : RefState → RefState) (s : State) :
    (s.onRef r f).part = s.part := rfl
@[simp] theorem State.onRef_links (r : Fin 16) (f : RefState → RefState) (s : State) :
    (s.onRef r f).links = s.links := rfl
@[simp] theorem State.onRef_sync (r : Fin 16) (f : RefState → RefState) (s : State) :
    (s.onRef r f).sync = s.sync := rfl
@[simp] theorem State.onRef_engine (r : Fin 16) (f : RefState → RefState) (s : State) :
    (s.onRef r f).engine = s.engine := rfl
@[simp] theorem State.onRef_circuits (r : Fin 16) (f : RefState → RefState) (s : State) :
    (s.onRef r f).circuits = s.circuits := rfl
@[simp] theorem State.onRef_plan (r : Fin 16) (f : RefState → RefState) (s : State) :
    (s.onRef r f).plan = s.plan := rfl
@[simp] theorem State.onRef_builder (r : Fin 16) (f : RefState → RefState) (s : State) :
    (s.onRef r f).builder = s.builder := rfl
@[simp] theorem State.onRef_session (r : Fin 16) (f : RefState → RefState) (s : State) :
    (s.onRef r f).session = s.session := rfl
@[simp] theorem State.onRef_agent (r : Fin 16) (f : RefState → RefState) (s : State) :
    (s.onRef r f).agent = s.agent := rfl
@[simp] theorem State.onRef_events (r : Fin 16) (f : RefState → RefState) (s : State) :
    (s.onRef r f).events = s.events := rfl
@[simp] theorem State.onRef_pending (r : Fin 16) (f : RefState → RefState) (s : State) :
    (s.onRef r f).pending = s.pending := rfl

@[simp] theorem State.onCirc_length (c : Fin 96) (f : CircuitState → CircuitState) (s : State) :
    (s.onCirc c f).circuits.length = s.circuits.length := by simp [State.onCirc]

@[simp] theorem State.onDir_length (c : Fin 96) (d : Direction) (f : DirState → DirState) (s : State) :
    (s.onDir c d f).circuits.length = s.circuits.length := State.onCirc_length c _ s

@[simp] theorem State.onRef_length (r : Fin 16) (f : RefState → RefState) (s : State) :
    (s.onRef r f).refs.length = s.refs.length := by simp [State.onRef]

/-- A read of a circuit after an update of one, with the whole table present. -/
theorem State.circ_onCirc (c e : Fin 96) (f : CircuitState → CircuitState) (s : State) (h : s.circuits.length = 96) :
    (s.onCirc c f).circ e = if e = c then f (s.circ c) else s.circ e := by
  have hc : c.val < s.circuits.length := by omega
  by_cases he : e = c
  · subst he
    simp [State.circ, State.onCirc, List.getD_eq_getElem?_getD, hc]
  · have hv : c.val ≠ e.val := fun x => he (Fin.ext x.symm)
    simp [State.circ, State.onCirc, List.getD_eq_getElem?_getD, he, hv]

@[simp] theorem State.circ_onCirc_self (c : Fin 96) (f : CircuitState → CircuitState) (s : State)
    (h : s.circuits.length = 96) : (s.onCirc c f).circ c = f (s.circ c) := by simp [State.circ_onCirc, h]

/-- A read of one direction after an update of one. -/
@[simp] theorem CircuitState.dir_onDir (d e : Direction) (f : DirState → DirState) (x : CircuitState) :
    (x.onDir d f).dir e = if e = d then f (x.dir d) else x.dir e := by cases d <;> cases e <;> rfl

/-- A read of a direction of a circuit after an update of one, with the whole table present. -/
theorem State.dir_onDir (c e : Fin 96) (d a : Direction) (f : DirState → DirState) (s : State)
    (h : s.circuits.length = 96) :
    ((s.onDir c d f).circ e).dir a = if e = c ∧ a = d then f ((s.circ c).dir d) else (s.circ e).dir a := by
  unfold State.onDir
  rw [State.circ_onCirc _ _ _ _ h]
  by_cases he : e = c <;> by_cases ha : a = d <;> simp [he, ha]

/-- A read of a reference after an update of one, with the whole table present. -/
theorem State.ref_onRef (r e : Fin 16) (f : RefState → RefState) (s : State) (h : s.refs.length = 16) :
    (s.onRef r f).ref e = if e = r then f (s.ref r) else s.ref e := by
  have hc : r.val < s.refs.length := by omega
  by_cases he : e = r
  · subst he
    simp [State.ref, State.onRef, List.getD_eq_getElem?_getD, hc]
  · have hv : r.val ≠ e.val := fun x => he (Fin.ext x.symm)
    simp [State.ref, State.onRef, List.getD_eq_getElem?_getD, he, hv]

end Sys2Proof.Machine
end

