-- ==== Sys2Proof/Laws/Ops.lean ====
section
/-! SUPPORT. For every shared operation, what it leaves: one rewriting lemma each, naming the blocks of the state it does not touch. -/

namespace Sys2Proof.Machine

/-- What every step of a fold leaves, the fold leaves. -/
theorem foldl_keeps {α β σ : Type} (g : σ → β) (f : σ → α → σ) (h : ∀ s x, g (f s x) = g s) (l : List α) (s : σ) :
    g (l.foldl f s) = g s := by
  induction l generalizing s with
  | nil => rfl
  | cons x xs ih => rw [List.foldl_cons, ih, h]

/-- post leaves every block but events. -/
@[simp] theorem post_keeps (k : EventKind) (a : Half) (v : Word) (s : State) :
    (post k a v s).part = s.part ∧ (post k a v s).links = s.links ∧ (post k a v s).sync = s.sync ∧
    (post k a v s).engine = s.engine ∧ (post k a v s).circuits = s.circuits ∧ (post k a v s).refs = s.refs ∧
    (post k a v s).plan = s.plan ∧ (post k a v s).builder = s.builder ∧ (post k a v s).session = s.session ∧
    (post k a v s).agent = s.agent ∧ (post k a v s).pending = s.pending := by
  unfold post; simp

/-- enterHold leaves every block but session, events. -/
@[simp] theorem enterHold_keeps (c : HoldCause) (s : State) :
    (enterHold c s).part = s.part ∧ (enterHold c s).links = s.links ∧ (enterHold c s).sync = s.sync ∧
    (enterHold c s).engine = s.engine ∧ (enterHold c s).circuits = s.circuits ∧ (enterHold c s).refs = s.refs ∧
    (enterHold c s).plan = s.plan ∧ (enterHold c s).builder = s.builder ∧ (enterHold c s).agent = s.agent ∧
    (enterHold c s).pending = s.pending := by
  unfold enterHold; simp

/-- resumeSession leaves every block but session, events. -/
@[simp] theorem resumeSession_keeps  (s : State) :
    (resumeSession s).part = s.part ∧ (resumeSession s).links = s.links ∧ (resumeSession s).sync = s.sync ∧
    (resumeSession s).engine = s.engine ∧ (resumeSession s).circuits = s.circuits ∧ (resumeSession s).refs = s.refs ∧
    (resumeSession s).plan = s.plan ∧ (resumeSession s).builder = s.builder ∧ (resumeSession s).agent = s.agent ∧
    (resumeSession s).pending = s.pending := by
  unfold resumeSession; simp

/-- offerUp leaves every block but links. -/
@[simp] theorem offerUp_keeps (f : Frame) (s : State) :
    (offerUp f s).part = s.part ∧ (offerUp f s).sync = s.sync ∧ (offerUp f s).engine = s.engine ∧
    (offerUp f s).circuits = s.circuits ∧ (offerUp f s).refs = s.refs ∧ (offerUp f s).plan = s.plan ∧
    (offerUp f s).builder = s.builder ∧ (offerUp f s).session = s.session ∧ (offerUp f s).agent = s.agent ∧
    (offerUp f s).events = s.events ∧ (offerUp f s).pending = s.pending := by
  unfold offerUp; split <;> simp

/-- offerDown leaves every block but links. -/
@[simp] theorem offerDown_keeps (f : DownFrame) (s : State) :
    (offerDown f s).part = s.part ∧ (offerDown f s).sync = s.sync ∧ (offerDown f s).engine = s.engine ∧
    (offerDown f s).circuits = s.circuits ∧ (offerDown f s).refs = s.refs ∧ (offerDown f s).plan = s.plan ∧
    (offerDown f s).builder = s.builder ∧ (offerDown f s).session = s.session ∧ (offerDown f s).agent = s.agent ∧
    (offerDown f s).events = s.events ∧ (offerDown f s).pending = s.pending := by
  unfold offerDown; split <;> simp

/-- noteCopy leaves every block but agent. -/
@[simp] theorem noteCopy_keeps (n : Option Nat) (x : CopyFate) (s : State) :
    (noteCopy n x s).part = s.part ∧ (noteCopy n x s).links = s.links ∧ (noteCopy n x s).sync = s.sync ∧
    (noteCopy n x s).engine = s.engine ∧ (noteCopy n x s).circuits = s.circuits ∧ (noteCopy n x s).refs = s.refs ∧
    (noteCopy n x s).plan = s.plan ∧ (noteCopy n x s).builder = s.builder ∧ (noteCopy n x s).session = s.session ∧
    (noteCopy n x s).events = s.events ∧ (noteCopy n x s).pending = s.pending := by
  unfold noteCopy; simp

/-- dropDownHead leaves every block but links. -/
@[simp] theorem dropDownHead_keeps  (s : State) :
    (dropDownHead s).part = s.part ∧ (dropDownHead s).sync = s.sync ∧ (dropDownHead s).engine = s.engine ∧
    (dropDownHead s).circuits = s.circuits ∧ (dropDownHead s).refs = s.refs ∧ (dropDownHead s).plan = s.plan ∧
    (dropDownHead s).builder = s.builder ∧ (dropDownHead s).session = s.session ∧ (dropDownHead s).agent = s.agent ∧
    (dropDownHead s).events = s.events ∧ (dropDownHead s).pending = s.pending := by
  unfold dropDownHead; simp

/-- abortField leaves every block but links, agent. -/
@[simp] theorem abortField_keeps  (s : State) :
    (abortField s).part = s.part ∧ (abortField s).sync = s.sync ∧ (abortField s).engine = s.engine ∧
    (abortField s).circuits = s.circuits ∧ (abortField s).refs = s.refs ∧ (abortField s).plan = s.plan ∧
    (abortField s).builder = s.builder ∧ (abortField s).session = s.session ∧ (abortField s).events = s.events ∧
    (abortField s).pending = s.pending := by
  unfold abortField; split <;> simp

/-- releaseCarried leaves every block but events. -/
@[simp] theorem releaseCarried_keeps  (s : State) :
    (releaseCarried s).part = s.part ∧ (releaseCarried s).links = s.links ∧ (releaseCarried s).sync = s.sync ∧
    (releaseCarried s).engine = s.engine ∧ (releaseCarried s).circuits = s.circuits ∧
    (releaseCarried s).refs = s.refs ∧ (releaseCarried s).plan = s.plan ∧ (releaseCarried s).builder = s.builder ∧
    (releaseCarried s).session = s.session ∧ (releaseCarried s).agent = s.agent ∧
    (releaseCarried s).pending = s.pending := by
  unfold releaseCarried; simp

/-- abortSource leaves every block but links, events. -/
@[simp] theorem abortSource_keeps (c : HeadSource) (s : State) :
    (abortSource c s).part = s.part ∧ (abortSource c s).sync = s.sync ∧ (abortSource c s).engine = s.engine ∧
    (abortSource c s).circuits = s.circuits ∧ (abortSource c s).refs = s.refs ∧ (abortSource c s).plan = s.plan ∧
    (abortSource c s).builder = s.builder ∧ (abortSource c s).session = s.session ∧
    (abortSource c s).agent = s.agent ∧ (abortSource c s).pending = s.pending := by
  unfold abortSource; split <;> simp

/-- abortHead leaves every block but links, events. -/
@[simp] theorem abortHead_keeps  (s : State) :
    (abortHead s).part = s.part ∧ (abortHead s).sync = s.sync ∧ (abortHead s).engine = s.engine ∧
    (abortHead s).circuits = s.circuits ∧ (abortHead s).refs = s.refs ∧ (abortHead s).plan = s.plan ∧
    (abortHead s).builder = s.builder ∧ (abortHead s).session = s.session ∧ (abortHead s).agent = s.agent ∧
    (abortHead s).pending = s.pending := by
  unfold abortHead; split <;> simp

/-- abortTx leaves every block but links, agent, events. -/
@[simp] theorem abortTx_keeps (p : PortId) (s : State) :
    (abortTx p s).part = s.part ∧ (abortTx p s).sync = s.sync ∧ (abortTx p s).engine = s.engine ∧
    (abortTx p s).circuits = s.circuits ∧ (abortTx p s).refs = s.refs ∧ (abortTx p s).plan = s.plan ∧
    (abortTx p s).builder = s.builder ∧ (abortTx p s).session = s.session ∧ (abortTx p s).pending = s.pending := by
  cases p <;> simp [abortTx]

/-- placeClaim leaves every block but engine. -/
@[simp] theorem placeClaim_keeps (c : Claim) (s : State) :
    (placeClaim c s).part = s.part ∧ (placeClaim c s).links = s.links ∧ (placeClaim c s).sync = s.sync ∧
    (placeClaim c s).circuits = s.circuits ∧ (placeClaim c s).refs = s.refs ∧ (placeClaim c s).plan = s.plan ∧
    (placeClaim c s).builder = s.builder ∧ (placeClaim c s).session = s.session ∧ (placeClaim c s).agent = s.agent ∧
    (placeClaim c s).events = s.events ∧ (placeClaim c s).pending = s.pending := by
  unfold placeClaim; simp

/-- dropClaim leaves every block but engine. -/
@[simp] theorem dropClaim_keeps  (s : State) :
    (dropClaim s).part = s.part ∧ (dropClaim s).links = s.links ∧ (dropClaim s).sync = s.sync ∧
    (dropClaim s).circuits = s.circuits ∧ (dropClaim s).refs = s.refs ∧ (dropClaim s).plan = s.plan ∧
    (dropClaim s).builder = s.builder ∧ (dropClaim s).session = s.session ∧ (dropClaim s).agent = s.agent ∧
    (dropClaim s).events = s.events ∧ (dropClaim s).pending = s.pending := by
  unfold dropClaim; simp

/-- trigger leaves every block but builder, engine. -/
@[simp] theorem trigger_keeps (t : Triggers) (s : State) :
    (trigger t s).part = s.part ∧ (trigger t s).links = s.links ∧ (trigger t s).sync = s.sync ∧
    (trigger t s).circuits = s.circuits ∧ (trigger t s).refs = s.refs ∧ (trigger t s).plan = s.plan ∧
    (trigger t s).session = s.session ∧ (trigger t s).agent = s.agent ∧ (trigger t s).events = s.events ∧
    (trigger t s).pending = s.pending := by
  unfold trigger; (repeat' split) <;> simp

/-- formResponse leaves every block but agent. -/
@[simp] theorem formResponse_keeps (r : QueuedResponse) (s : State) :
    (formResponse r s).part = s.part ∧ (formResponse r s).links = s.links ∧ (formResponse r s).sync = s.sync ∧
    (formResponse r s).engine = s.engine ∧ (formResponse r s).circuits = s.circuits ∧
    (formResponse r s).refs = s.refs ∧ (formResponse r s).plan = s.plan ∧ (formResponse r s).builder = s.builder ∧
    (formResponse r s).session = s.session ∧ (formResponse r s).events = s.events ∧
    (formResponse r s).pending = s.pending := by
  unfold formResponse; simp

/-- completeAs leaves every block but agent. -/
@[simp] theorem completeAs_keeps (b : Bool) (st : Status) (l : List Byte) (s : State) :
    (completeAs b st l s).part = s.part ∧ (completeAs b st l s).links = s.links ∧
    (completeAs b st l s).sync = s.sync ∧ (completeAs b st l s).engine = s.engine ∧
    (completeAs b st l s).circuits = s.circuits ∧ (completeAs b st l s).refs = s.refs ∧
    (completeAs b st l s).plan = s.plan ∧ (completeAs b st l s).builder = s.builder ∧
    (completeAs b st l s).session = s.session ∧ (completeAs b st l s).events = s.events ∧
    (completeAs b st l s).pending = s.pending := by
  unfold completeAs; split <;> simp

/-- complete leaves every block but agent. -/
@[simp] theorem complete_keeps (st : Status) (l : List Byte) (s : State) :
    (complete st l s).part = s.part ∧ (complete st l s).links = s.links ∧ (complete st l s).sync = s.sync ∧
    (complete st l s).engine = s.engine ∧ (complete st l s).circuits = s.circuits ∧ (complete st l s).refs = s.refs ∧
    (complete st l s).plan = s.plan ∧ (complete st l s).builder = s.builder ∧ (complete st l s).session = s.session ∧
    (complete st l s).events = s.events ∧ (complete st l s).pending = s.pending := by
  unfold complete; simp

/-- completeBroadcast leaves every block but agent. -/
@[simp] theorem completeBroadcast_keeps  (s : State) :
    (completeBroadcast s).part = s.part ∧ (completeBroadcast s).links = s.links ∧
    (completeBroadcast s).sync = s.sync ∧ (completeBroadcast s).engine = s.engine ∧
    (completeBroadcast s).circuits = s.circuits ∧ (completeBroadcast s).refs = s.refs ∧
    (completeBroadcast s).plan = s.plan ∧ (completeBroadcast s).builder = s.builder ∧
    (completeBroadcast s).session = s.session ∧ (completeBroadcast s).events = s.events ∧
    (completeBroadcast s).pending = s.pending := by
  unfold completeBroadcast; simp

/-- hold leaves every block but agent. -/
@[simp] theorem hold_keeps (h : Held) (s : State) :
    (hold h s).part = s.part ∧ (hold h s).links = s.links ∧ (hold h s).sync = s.sync ∧ (hold h s).engine = s.engine ∧
    (hold h s).circuits = s.circuits ∧ (hold h s).refs = s.refs ∧ (hold h s).plan = s.plan ∧
    (hold h s).builder = s.builder ∧ (hold h s).session = s.session ∧ (hold h s).events = s.events ∧
    (hold h s).pending = s.pending := by
  unfold hold; simp

/-- completeHeld leaves every block but agent. -/
@[simp] theorem completeHeld_keeps (h : Held) (st : Status) (l : List Byte) (s : State) :
    (completeHeld h st l s).part = s.part ∧ (completeHeld h st l s).links = s.links ∧
    (completeHeld h st l s).sync = s.sync ∧ (completeHeld h st l s).engine = s.engine ∧
    (completeHeld h st l s).circuits = s.circuits ∧ (completeHeld h st l s).refs = s.refs ∧
    (completeHeld h st l s).plan = s.plan ∧ (completeHeld h st l s).builder = s.builder ∧
    (completeHeld h st l s).session = s.session ∧ (completeHeld h st l s).events = s.events ∧
    (completeHeld h st l s).pending = s.pending := by
  unfold completeHeld; split <;> simp

/-- refuseState leaves every block but agent. -/
@[simp] theorem refuseState_keeps  (s : State) :
    (refuseState s).part = s.part ∧ (refuseState s).links = s.links ∧ (refuseState s).sync = s.sync ∧
    (refuseState s).engine = s.engine ∧ (refuseState s).circuits = s.circuits ∧ (refuseState s).refs = s.refs ∧
    (refuseState s).plan = s.plan ∧ (refuseState s).builder = s.builder ∧ (refuseState s).session = s.session ∧
    (refuseState s).events = s.events ∧ (refuseState s).pending = s.pending := by
  unfold refuseState; simp

/-- popResponse leaves every block but agent. -/
@[simp] theorem popResponse_keeps  (s : State) :
    (popResponse s).part = s.part ∧ (popResponse s).links = s.links ∧ (popResponse s).sync = s.sync ∧
    (popResponse s).engine = s.engine ∧ (popResponse s).circuits = s.circuits ∧ (popResponse s).refs = s.refs ∧
    (popResponse s).plan = s.plan ∧ (popResponse s).builder = s.builder ∧ (popResponse s).session = s.session ∧
    (popResponse s).events = s.events ∧ (popResponse s).pending = s.pending := by
  unfold popResponse; simp

/-! ### Frames that arrive -/

/-- admitSample leaves every block but engine, events. -/
@[simp] theorem admitSample_keeps (f : SampleFrame) (s : State) :
    (admitSample f s).part = s.part ∧ (admitSample f s).links = s.links ∧ (admitSample f s).sync = s.sync ∧
    (admitSample f s).circuits = s.circuits ∧ (admitSample f s).refs = s.refs ∧ (admitSample f s).plan = s.plan ∧
    (admitSample f s).builder = s.builder ∧ (admitSample f s).session = s.session ∧
    (admitSample f s).agent = s.agent ∧ (admitSample f s).pending = s.pending := by
  unfold admitSample; split <;> simp

/-- acceptSample leaves every block but engine, events. -/
@[simp] theorem acceptSample_keeps (n : Byte) (b : List Byte) (s : State) :
    (acceptSample n b s).part = s.part ∧ (acceptSample n b s).links = s.links ∧ (acceptSample n b s).sync = s.sync ∧
    (acceptSample n b s).circuits = s.circuits ∧ (acceptSample n b s).refs = s.refs ∧
    (acceptSample n b s).plan = s.plan ∧ (acceptSample n b s).builder = s.builder ∧
    (acceptSample n b s).session = s.session ∧ (acceptSample n b s).agent = s.agent ∧
    (acceptSample n b s).pending = s.pending := by
  unfold acceptSample; (repeat' split) <;> simp

/-- epochCheck leaves every block but engine, events. -/
@[simp] theorem epochCheck_keeps (e : Byte) (s : State) :
    (epochCheck e s).part = s.part ∧ (epochCheck e s).links = s.links ∧ (epochCheck e s).sync = s.sync ∧
    (epochCheck e s).circuits = s.circuits ∧ (epochCheck e s).refs = s.refs ∧ (epochCheck e s).plan = s.plan ∧
    (epochCheck e s).builder = s.builder ∧ (epochCheck e s).session = s.session ∧ (epochCheck e s).agent = s.agent ∧
    (epochCheck e s).pending = s.pending := by
  unfold epochCheck; split <;> simp

/-- takeSync leaves every block but sync, engine, events. -/
@[simp] theorem takeSync_keeps (e : Byte) (n : Half) (i : Nat) (s : State) :
    (takeSync e n i s).part = s.part ∧ (takeSync e n i s).links = s.links ∧
    (takeSync e n i s).circuits = s.circuits ∧ (takeSync e n i s).refs = s.refs ∧ (takeSync e n i s).plan = s.plan ∧
    (takeSync e n i s).builder = s.builder ∧ (takeSync e n i s).session = s.session ∧
    (takeSync e n i s).agent = s.agent ∧ (takeSync e n i s).pending = s.pending := by
  unfold takeSync; split <;> simp

/-- syncFrame leaves every block but sync, engine, events. -/
@[simp] theorem syncFrame_keeps (b : List Byte) (s : State) :
    (syncFrame b s).part = s.part ∧ (syncFrame b s).links = s.links ∧ (syncFrame b s).circuits = s.circuits ∧
    (syncFrame b s).refs = s.refs ∧ (syncFrame b s).plan = s.plan ∧ (syncFrame b s).builder = s.builder ∧
    (syncFrame b s).session = s.session ∧ (syncFrame b s).agent = s.agent ∧ (syncFrame b s).pending = s.pending := by
  unfold syncFrame; split <;> simp

/-- orphanTx leaves every block but links. -/
@[simp] theorem orphanTx_keeps (l : List Record) (s : State) :
    (orphanTx l s).part = s.part ∧ (orphanTx l s).sync = s.sync ∧ (orphanTx l s).engine = s.engine ∧
    (orphanTx l s).circuits = s.circuits ∧ (orphanTx l s).refs = s.refs ∧ (orphanTx l s).plan = s.plan ∧
    (orphanTx l s).builder = s.builder ∧ (orphanTx l s).session = s.session ∧ (orphanTx l s).agent = s.agent ∧
    (orphanTx l s).events = s.events ∧ (orphanTx l s).pending = s.pending := by
  unfold orphanTx; simp

/-- retire leaves every block but links, engine, builder, session. -/
@[simp] theorem retire_keeps (n : Nat) (s : State) :
    (retire n s).part = s.part ∧ (retire n s).sync = s.sync ∧ (retire n s).circuits = s.circuits ∧
    (retire n s).refs = s.refs ∧ (retire n s).plan = s.plan ∧ (retire n s).agent = s.agent ∧
    (retire n s).events = s.events ∧ (retire n s).pending = s.pending := by
  unfold retire; dsimp only; split <;> simp

/-- takeAck leaves every block but links, engine, builder, session, events. -/
@[simp] theorem takeAck_keeps (n : Nat) (s : State) :
    (takeAck n s).part = s.part ∧ (takeAck n s).sync = s.sync ∧ (takeAck n s).circuits = s.circuits ∧
    (takeAck n s).refs = s.refs ∧ (takeAck n s).plan = s.plan ∧ (takeAck n s).agent = s.agent ∧
    (takeAck n s).pending = s.pending := by
  unfold takeAck; dsimp only; (repeat' split) <;> simp

/-- ackFrame leaves every block but links, engine, builder, session, events. -/
@[simp] theorem ackFrame_keeps (b : List Byte) (s : State) :
    (ackFrame b s).part = s.part ∧ (ackFrame b s).sync = s.sync ∧ (ackFrame b s).circuits = s.circuits ∧
    (ackFrame b s).refs = s.refs ∧ (ackFrame b s).plan = s.plan ∧ (ackFrame b s).agent = s.agent ∧
    (ackFrame b s).pending = s.pending := by
  unfold ackFrame; dsimp only; (repeat' split) <;> simp

/-- queueCommand leaves every block but agent. -/
@[simp] theorem queueCommand_keeps (c : Command) (s : State) :
    (queueCommand c s).part = s.part ∧ (queueCommand c s).links = s.links ∧ (queueCommand c s).sync = s.sync ∧
    (queueCommand c s).engine = s.engine ∧ (queueCommand c s).circuits = s.circuits ∧
    (queueCommand c s).refs = s.refs ∧ (queueCommand c s).plan = s.plan ∧ (queueCommand c s).builder = s.builder ∧
    (queueCommand c s).session = s.session ∧ (queueCommand c s).events = s.events ∧
    (queueCommand c s).pending = s.pending := by
  unfold queueCommand; split <;> simp

/-- addressedCommand leaves every block but agent. -/
@[simp] theorem addressedCommand_keeps (t k : Byte) (l : List Byte) (s : State) :
    (addressedCommand t k l s).part = s.part ∧ (addressedCommand t k l s).links = s.links ∧
    (addressedCommand t k l s).sync = s.sync ∧ (addressedCommand t k l s).engine = s.engine ∧
    (addressedCommand t k l s).circuits = s.circuits ∧ (addressedCommand t k l s).refs = s.refs ∧
    (addressedCommand t k l s).plan = s.plan ∧ (addressedCommand t k l s).builder = s.builder ∧
    (addressedCommand t k l s).session = s.session ∧ (addressedCommand t k l s).events = s.events ∧
    (addressedCommand t k l s).pending = s.pending := by
  unfold addressedCommand; dsimp only; (repeat' split) <;> simp

/-- broadcastCommand leaves every block but agent. -/
@[simp] theorem broadcastCommand_keeps (t k : Byte) (l : List Byte) (n : Nat) (x : CopyFate) (s : State) :
    (broadcastCommand t k l n x s).part = s.part ∧ (broadcastCommand t k l n x s).links = s.links ∧
    (broadcastCommand t k l n x s).sync = s.sync ∧ (broadcastCommand t k l n x s).engine = s.engine ∧
    (broadcastCommand t k l n x s).circuits = s.circuits ∧ (broadcastCommand t k l n x s).refs = s.refs ∧
    (broadcastCommand t k l n x s).plan = s.plan ∧ (broadcastCommand t k l n x s).builder = s.builder ∧
    (broadcastCommand t k l n x s).session = s.session ∧ (broadcastCommand t k l n x s).events = s.events ∧
    (broadcastCommand t k l n x s).pending = s.pending := by
  unfold broadcastCommand; split <;> simp

/-- commandFrame leaves every block but agent. -/
@[simp] theorem commandFrame_keeps (x : Option (Nat × CopyFate)) (l : List Byte) (s : State) :
    (commandFrame x l s).part = s.part ∧ (commandFrame x l s).links = s.links ∧ (commandFrame x l s).sync = s.sync ∧
    (commandFrame x l s).engine = s.engine ∧ (commandFrame x l s).circuits = s.circuits ∧
    (commandFrame x l s).refs = s.refs ∧ (commandFrame x l s).plan = s.plan ∧
    (commandFrame x l s).builder = s.builder ∧ (commandFrame x l s).session = s.session ∧
    (commandFrame x l s).events = s.events ∧ (commandFrame x l s).pending = s.pending := by
  unfold commandFrame; (repeat' split) <;> simp

/-- fieldFrame leaves every block but links, engine, events. -/
@[simp] theorem fieldFrame_keeps (f : Frame) (s : State) :
    (fieldFrame f s).part = s.part ∧ (fieldFrame f s).sync = s.sync ∧ (fieldFrame f s).circuits = s.circuits ∧
    (fieldFrame f s).refs = s.refs ∧ (fieldFrame f s).plan = s.plan ∧ (fieldFrame f s).builder = s.builder ∧
    (fieldFrame f s).session = s.session ∧ (fieldFrame f s).agent = s.agent ∧
    (fieldFrame f s).pending = s.pending := by
  unfold fieldFrame; dsimp only; split <;> simp

/-- broadcastFrame leaves every block but links, agent. -/
@[simp] theorem broadcastFrame_keeps (f : Frame) (s : State) :
    (broadcastFrame f s).part = s.part ∧ (broadcastFrame f s).sync = s.sync ∧
    (broadcastFrame f s).engine = s.engine ∧ (broadcastFrame f s).circuits = s.circuits ∧
    (broadcastFrame f s).refs = s.refs ∧ (broadcastFrame f s).plan = s.plan ∧
    (broadcastFrame f s).builder = s.builder ∧ (broadcastFrame f s).session = s.session ∧
    (broadcastFrame f s).events = s.events ∧ (broadcastFrame f s).pending = s.pending := by
  unfold broadcastFrame; simp

/-- headFrame leaves every block but links, sync, engine, builder, session, agent, events. -/
@[simp] theorem headFrame_keeps (f : Frame) (s : State) :
    (headFrame f s).part = s.part ∧ (headFrame f s).circuits = s.circuits ∧ (headFrame f s).refs = s.refs ∧
    (headFrame f s).plan = s.plan ∧ (headFrame f s).pending = s.pending := by
  unfold headFrame; (repeat' split) <;> simp

/-- goodArrival leaves every block but links, sync, engine, builder, session, agent, events. -/
@[simp] theorem goodArrival_keeps (p : PortId) (f : Frame) (s : State) :
    (goodArrival p f s).part = s.part ∧ (goodArrival p f s).circuits = s.circuits ∧
    (goodArrival p f s).refs = s.refs ∧ (goodArrival p f s).plan = s.plan ∧
    (goodArrival p f s).pending = s.pending := by
  cases p <;> simp [goodArrival]

/-- checkReception leaves every block but links, sync, engine, builder, session, agent, events. -/
@[simp] theorem checkReception_keeps (p : PortId) (l : List Byte) (s : State) :
    (checkReception p l s).part = s.part ∧ (checkReception p l s).circuits = s.circuits ∧
    (checkReception p l s).refs = s.refs ∧ (checkReception p l s).plan = s.plan ∧
    (checkReception p l s).pending = s.pending := by
  unfold checkReception; dsimp only; (repeat' split) <;> simp

/-! ### Ports and transmissions -/

/-- enterUp leaves every block but links, session, events. -/
@[simp] theorem enterUp_keeps (p : PortId) (s : State) :
    (enterUp p s).part = s.part ∧ (enterUp p s).sync = s.sync ∧ (enterUp p s).engine = s.engine ∧
    (enterUp p s).circuits = s.circuits ∧ (enterUp p s).refs = s.refs ∧ (enterUp p s).plan = s.plan ∧
    (enterUp p s).builder = s.builder ∧ (enterUp p s).agent = s.agent ∧ (enterUp p s).pending = s.pending := by
  unfold enterUp; dsimp only; split <;> simp

/-- leaveUp leaves every block but links, session, agent, events. -/
@[simp] theorem leaveUp_keeps (p : PortId) (x : PortState) (y : Line) (v : Word) (s : State) :
    (leaveUp p x y v s).part = s.part ∧ (leaveUp p x y v s).sync = s.sync ∧ (leaveUp p x y v s).engine = s.engine ∧
    (leaveUp p x y v s).circuits = s.circuits ∧ (leaveUp p x y v s).refs = s.refs ∧
    (leaveUp p x y v s).plan = s.plan ∧ (leaveUp p x y v s).builder = s.builder ∧
    (leaveUp p x y v s).pending = s.pending := by
  unfold leaveUp; dsimp only; split <;> simp

/-- enterBreak leaves every block but links. -/
@[simp] theorem enterBreak_keeps (p : PortId) (s : State) :
    (enterBreak p s).part = s.part ∧ (enterBreak p s).sync = s.sync ∧ (enterBreak p s).engine = s.engine ∧
    (enterBreak p s).circuits = s.circuits ∧ (enterBreak p s).refs = s.refs ∧ (enterBreak p s).plan = s.plan ∧
    (enterBreak p s).builder = s.builder ∧ (enterBreak p s).session = s.session ∧ (enterBreak p s).agent = s.agent ∧
    (enterBreak p s).events = s.events ∧ (enterBreak p s).pending = s.pending := by
  unfold enterBreak; simp

/-- beginHead leaves every block but links. -/
@[simp] theorem beginHead_keeps (h : HeadSource) (f : Frame) (s : State) :
    (beginHead h f s).part = s.part ∧ (beginHead h f s).sync = s.sync ∧ (beginHead h f s).engine = s.engine ∧
    (beginHead h f s).circuits = s.circuits ∧ (beginHead h f s).refs = s.refs ∧ (beginHead h f s).plan = s.plan ∧
    (beginHead h f s).builder = s.builder ∧ (beginHead h f s).session = s.session ∧
    (beginHead h f s).agent = s.agent ∧ (beginHead h f s).events = s.events ∧
    (beginHead h f s).pending = s.pending := by
  unfold beginHead; simp

/-- serve leaves every block but links. -/
@[simp] theorem serve_keeps (x : TxClass) (s : State) :
    (serve x s).part = s.part ∧ (serve x s).sync = s.sync ∧ (serve x s).engine = s.engine ∧
    (serve x s).circuits = s.circuits ∧ (serve x s).refs = s.refs ∧ (serve x s).plan = s.plan ∧
    (serve x s).builder = s.builder ∧ (serve x s).session = s.session ∧ (serve x s).agent = s.agent ∧
    (serve x s).events = s.events ∧ (serve x s).pending = s.pending := by
  unfold serve; simp

/-- sendOwn leaves every block but links, events. -/
@[simp] theorem sendOwn_keeps  (s : State) :
    (sendOwn s).part = s.part ∧ (sendOwn s).sync = s.sync ∧ (sendOwn s).engine = s.engine ∧
    (sendOwn s).circuits = s.circuits ∧ (sendOwn s).refs = s.refs ∧ (sendOwn s).plan = s.plan ∧
    (sendOwn s).builder = s.builder ∧ (sendOwn s).session = s.session ∧ (sendOwn s).agent = s.agent ∧
    (sendOwn s).pending = s.pending := by
  unfold sendOwn; split <;> simp

/-- sendForward leaves every block but links. -/
@[simp] theorem sendForward_keeps (f : Frame) (s : State) :
    (sendForward f s).part = s.part ∧ (sendForward f s).sync = s.sync ∧ (sendForward f s).engine = s.engine ∧
    (sendForward f s).circuits = s.circuits ∧ (sendForward f s).refs = s.refs ∧ (sendForward f s).plan = s.plan ∧
    (sendForward f s).builder = s.builder ∧ (sendForward f s).session = s.session ∧
    (sendForward f s).agent = s.agent ∧ (sendForward f s).events = s.events ∧
    (sendForward f s).pending = s.pending := by
  unfold sendForward; simp

/-- choose leaves every block but links, events. -/
@[simp] theorem choose_keeps  (s : State) :
    (choose s).part = s.part ∧ (choose s).sync = s.sync ∧ (choose s).engine = s.engine ∧
    (choose s).circuits = s.circuits ∧ (choose s).refs = s.refs ∧ (choose s).plan = s.plan ∧
    (choose s).builder = s.builder ∧ (choose s).session = s.session ∧ (choose s).agent = s.agent ∧
    (choose s).pending = s.pending := by
  unfold choose; (repeat' split) <;> simp

/-- tallyComplete leaves every block but session. -/
@[simp] theorem tallyComplete_keeps (r : Option Half) (b : Bool) (s : State) :
    (tallyComplete r b s).part = s.part ∧ (tallyComplete r b s).links = s.links ∧
    (tallyComplete r b s).sync = s.sync ∧ (tallyComplete r b s).engine = s.engine ∧
    (tallyComplete r b s).circuits = s.circuits ∧ (tallyComplete r b s).refs = s.refs ∧
    (tallyComplete r b s).plan = s.plan ∧ (tallyComplete r b s).builder = s.builder ∧
    (tallyComplete r b s).agent = s.agent ∧ (tallyComplete r b s).events = s.events ∧
    (tallyComplete r b s).pending = s.pending := by
  unfold tallyComplete; dsimp only; (repeat' split) <;> simp

/-- eventComplete leaves every block but events. -/
@[simp] theorem eventComplete_keeps  (s : State) :
    (eventComplete s).part = s.part ∧ (eventComplete s).links = s.links ∧ (eventComplete s).sync = s.sync ∧
    (eventComplete s).engine = s.engine ∧ (eventComplete s).circuits = s.circuits ∧ (eventComplete s).refs = s.refs ∧
    (eventComplete s).plan = s.plan ∧ (eventComplete s).builder = s.builder ∧ (eventComplete s).session = s.session ∧
    (eventComplete s).agent = s.agent ∧ (eventComplete s).pending = s.pending := by
  unfold eventComplete; simp

/-- startPort leaves every block but links. -/
@[simp] theorem startPort_keeps (p : PortId) (s : State) :
    (startPort p s).part = s.part ∧ (startPort p s).sync = s.sync ∧ (startPort p s).engine = s.engine ∧
    (startPort p s).circuits = s.circuits ∧ (startPort p s).refs = s.refs ∧ (startPort p s).plan = s.plan ∧
    (startPort p s).builder = s.builder ∧ (startPort p s).session = s.session ∧ (startPort p s).agent = s.agent ∧
    (startPort p s).events = s.events ∧ (startPort p s).pending = s.pending := by
  unfold startPort; split <;> simp

/-! ### Metering -/

/-- syncExpiry leaves every block but sync, events. -/
@[simp] theorem syncExpiry_keeps  (s : State) :
    (syncExpiry s).part = s.part ∧ (syncExpiry s).links = s.links ∧ (syncExpiry s).engine = s.engine ∧
    (syncExpiry s).circuits = s.circuits ∧ (syncExpiry s).refs = s.refs ∧ (syncExpiry s).plan = s.plan ∧
    (syncExpiry s).builder = s.builder ∧ (syncExpiry s).session = s.session ∧ (syncExpiry s).agent = s.agent ∧
    (syncExpiry s).pending = s.pending := by
  unfold syncExpiry; split <;> simp

/-- beginFrame leaves every block but engine. -/
@[simp] theorem beginFrame_keeps (f : SampleFrame) (l : List SampleFrame) (s : State) :
    (beginFrame f l s).part = s.part ∧ (beginFrame f l s).links = s.links ∧ (beginFrame f l s).sync = s.sync ∧
    (beginFrame f l s).circuits = s.circuits ∧ (beginFrame f l s).refs = s.refs ∧ (beginFrame f l s).plan = s.plan ∧
    (beginFrame f l s).builder = s.builder ∧ (beginFrame f l s).session = s.session ∧
    (beginFrame f l s).agent = s.agent ∧ (beginFrame f l s).events = s.events ∧
    (beginFrame f l s).pending = s.pending := by
  unfold beginFrame; split <;> simp

/-- sampleDone leaves every block but engine. -/
@[simp] theorem sampleDone_keeps (d : DueSample) (s : State) :
    (sampleDone d s).part = s.part ∧ (sampleDone d s).links = s.links ∧ (sampleDone d s).sync = s.sync ∧
    (sampleDone d s).circuits = s.circuits ∧ (sampleDone d s).refs = s.refs ∧ (sampleDone d s).plan = s.plan ∧
    (sampleDone d s).builder = s.builder ∧ (sampleDone d s).session = s.session ∧ (sampleDone d s).agent = s.agent ∧
    (sampleDone d s).events = s.events ∧ (sampleDone d s).pending = s.pending := by
  unfold sampleDone; simp

/-- censusSees leaves every block but refs, events. -/
@[simp] theorem censusSees_keeps (p : PlanContents) (i : Fin 16) (y : Option RingSample) (x : RingSample) (s : State) :
    (censusSees p i y x s).part = s.part ∧ (censusSees p i y x s).links = s.links ∧
    (censusSees p i y x s).sync = s.sync ∧ (censusSees p i y x s).engine = s.engine ∧
    (censusSees p i y x s).circuits = s.circuits ∧ (censusSees p i y x s).plan = s.plan ∧
    (censusSees p i y x s).builder = s.builder ∧ (censusSees p i y x s).session = s.session ∧
    (censusSees p i y x s).agent = s.agent ∧ (censusSees p i y x s).pending = s.pending := by
  unfold censusSees; dsimp only; (repeat' split) <;> simp

/-- generateUnit leaves every block but engine, circuits, builder. -/
@[simp] theorem generateUnit_keeps (r : CircuitRecord) (c : Fin 96) (d : Direction) (s : State) :
    (generateUnit r c d s).part = s.part ∧ (generateUnit r c d s).links = s.links ∧
    (generateUnit r c d s).sync = s.sync ∧ (generateUnit r c d s).refs = s.refs ∧
    (generateUnit r c d s).plan = s.plan ∧ (generateUnit r c d s).session = s.session ∧
    (generateUnit r c d s).agent = s.agent ∧ (generateUnit r c d s).events = s.events ∧
    (generateUnit r c d s).pending = s.pending := by
  unfold generateUnit; dsimp only; split <;> simp

/-- unitDue leaves every block but engine, circuits, builder. -/
@[simp] theorem unitDue_keeps (r : CircuitRecord) (c : Fin 96) (d : Direction) (s : State) :
    (unitDue r c d s).part = s.part ∧ (unitDue r c d s).links = s.links ∧ (unitDue r c d s).sync = s.sync ∧
    (unitDue r c d s).refs = s.refs ∧ (unitDue r c d s).plan = s.plan ∧ (unitDue r c d s).session = s.session ∧
    (unitDue r c d s).agent = s.agent ∧ (unitDue r c d s).events = s.events ∧
    (unitDue r c d s).pending = s.pending := by
  unfold unitDue; split <;> simp

/-- takeOverflow leaves every block but engine, circuits, builder. -/
@[simp] theorem takeOverflow_keeps (r : CircuitRecord) (c : Fin 96) (d : Direction) (s : State) :
    (takeOverflow r c d s).part = s.part ∧ (takeOverflow r c d s).links = s.links ∧
    (takeOverflow r c d s).sync = s.sync ∧ (takeOverflow r c d s).refs = s.refs ∧
    (takeOverflow r c d s).plan = s.plan ∧ (takeOverflow r c d s).session = s.session ∧
    (takeOverflow r c d s).agent = s.agent ∧ (takeOverflow r c d s).events = s.events ∧
    (takeOverflow r c d s).pending = s.pending := by
  unfold takeOverflow; dsimp only; split <;> simp

/-- overflowCheck leaves every block but engine, circuits, builder, events. -/
@[simp] theorem overflowCheck_keeps (r : CircuitRecord) (c : Fin 96) (d : Direction) (s : State) :
    ((overflowCheck r c d s).1).part = s.part ∧ ((overflowCheck r c d s).1).links = s.links ∧
    ((overflowCheck r c d s).1).sync = s.sync ∧ ((overflowCheck r c d s).1).refs = s.refs ∧
    ((overflowCheck r c d s).1).plan = s.plan ∧ ((overflowCheck r c d s).1).session = s.session ∧
    ((overflowCheck r c d s).1).agent = s.agent ∧ ((overflowCheck r c d s).1).pending = s.pending := by
  unfold overflowCheck; dsimp only; (repeat' split) <;> simp

/-- floorRestart leaves every block but circuits, events. -/
@[simp] theorem floorRestart_keeps (c : Fin 96) (d : Direction) (s : State) :
    (floorRestart c d s).part = s.part ∧ (floorRestart c d s).links = s.links ∧ (floorRestart c d s).sync = s.sync ∧
    (floorRestart c d s).engine = s.engine ∧ (floorRestart c d s).refs = s.refs ∧
    (floorRestart c d s).plan = s.plan ∧ (floorRestart c d s).builder = s.builder ∧
    (floorRestart c d s).session = s.session ∧ (floorRestart c d s).agent = s.agent ∧
    (floorRestart c d s).pending = s.pending := by
  unfold floorRestart; dsimp only; split <;> simp

/-- quietDiscard leaves every block but circuits, events. -/
@[simp] theorem quietDiscard_keeps (c : Fin 96) (s : State) :
    (quietDiscard c s).part = s.part ∧ (quietDiscard c s).links = s.links ∧ (quietDiscard c s).sync = s.sync ∧
    (quietDiscard c s).engine = s.engine ∧ (quietDiscard c s).refs = s.refs ∧ (quietDiscard c s).plan = s.plan ∧
    (quietDiscard c s).builder = s.builder ∧ (quietDiscard c s).session = s.session ∧
    (quietDiscard c s).agent = s.agent ∧ (quietDiscard c s).pending = s.pending := by
  unfold quietDiscard; dsimp only; split <;> simp

/-- floorStep leaves every block but circuits, events. -/
@[simp] theorem floorStep_keeps (r : CircuitRecord) (c : Fin 96) (s : State) :
    (floorStep r c s).part = s.part ∧ (floorStep r c s).links = s.links ∧ (floorStep r c s).sync = s.sync ∧
    (floorStep r c s).engine = s.engine ∧ (floorStep r c s).refs = s.refs ∧ (floorStep r c s).plan = s.plan ∧
    (floorStep r c s).builder = s.builder ∧ (floorStep r c s).session = s.session ∧
    (floorStep r c s).agent = s.agent ∧ (floorStep r c s).pending = s.pending := by
  unfold floorStep; dsimp only; split <;> simp

/-- floorAtPair leaves every block but circuits, events. -/
@[simp] theorem floorAtPair_keeps (r : CircuitRecord) (c : Fin 96) (o : Option Direction) (s : State) :
    (floorAtPair r c o s).part = s.part ∧ (floorAtPair r c o s).links = s.links ∧
    (floorAtPair r c o s).sync = s.sync ∧ (floorAtPair r c o s).engine = s.engine ∧
    (floorAtPair r c o s).refs = s.refs ∧ (floorAtPair r c o s).plan = s.plan ∧
    (floorAtPair r c o s).builder = s.builder ∧ (floorAtPair r c o s).session = s.session ∧
    (floorAtPair r c o s).agent = s.agent ∧ (floorAtPair r c o s).pending = s.pending := by
  unfold floorAtPair; (repeat' split) <;> simp

/-- accumulatePair leaves every block but engine, circuits, builder, events. -/
@[simp] theorem accumulatePair_keeps (r : CircuitRecord) (c : Fin 96) (i v : Half) (s : State) :
    (accumulatePair r c i v s).part = s.part ∧ (accumulatePair r c i v s).links = s.links ∧
    (accumulatePair r c i v s).sync = s.sync ∧ (accumulatePair r c i v s).refs = s.refs ∧
    (accumulatePair r c i v s).plan = s.plan ∧ (accumulatePair r c i v s).session = s.session ∧
    (accumulatePair r c i v s).agent = s.agent ∧ (accumulatePair r c i v s).pending = s.pending := by
  unfold accumulatePair; dsimp only; split <;> simp

/-- formPair leaves every block but engine, circuits, builder, events. -/
@[simp] theorem formPair_keeps (p : PlanContents) (c : Fin 96) (i v : Half) (s : State) :
    (formPair p c i v s).part = s.part ∧ (formPair p c i v s).links = s.links ∧ (formPair p c i v s).sync = s.sync ∧
    (formPair p c i v s).refs = s.refs ∧ (formPair p c i v s).plan = s.plan ∧
    (formPair p c i v s).session = s.session ∧ (formPair p c i v s).agent = s.agent ∧
    (formPair p c i v s).pending = s.pending := by
  unfold formPair; dsimp only; split <;> simp

/-- countMiss leaves every block but circuits. -/
@[simp] theorem countMiss_keeps (c : Fin 96) (s : State) :
    (countMiss c s).part = s.part ∧ (countMiss c s).links = s.links ∧ (countMiss c s).sync = s.sync ∧
    (countMiss c s).engine = s.engine ∧ (countMiss c s).refs = s.refs ∧ (countMiss c s).plan = s.plan ∧
    (countMiss c s).builder = s.builder ∧ (countMiss c s).session = s.session ∧ (countMiss c s).agent = s.agent ∧
    (countMiss c s).events = s.events ∧ (countMiss c s).pending = s.pending := by
  unfold countMiss; simp

/-- servePark leaves every block but engine, circuits, builder, events. -/
@[simp] theorem servePark_keeps (p : PlanContents) (ring : List RingSample) (u : Half) (c : Fin 96) (l : List Parked) (s : State) :
    (servePark p ring u c l s).part = s.part ∧ (servePark p ring u c l s).links = s.links ∧
    (servePark p ring u c l s).sync = s.sync ∧ (servePark p ring u c l s).refs = s.refs ∧
    (servePark p ring u c l s).plan = s.plan ∧ (servePark p ring u c l s).session = s.session ∧
    (servePark p ring u c l s).agent = s.agent ∧ (servePark p ring u c l s).pending = s.pending := by
  induction l generalizing s with
  | nil => simp [servePark]
  | cons h rest ih =>
    unfold servePark
    split
    · simp
    · dsimp only
      split <;> simp [ih]

/-- parkService leaves every block but engine, circuits, builder, events. -/
@[simp] theorem parkService_keeps (p : PlanContents) (r : Fin 16) (u : Half) (s : State) :
    (parkService p r u s).part = s.part ∧ (parkService p r u s).links = s.links ∧
    (parkService p r u s).sync = s.sync ∧ (parkService p r u s).refs = s.refs ∧ (parkService p r u s).plan = s.plan ∧
    (parkService p r u s).session = s.session ∧ (parkService p r u s).agent = s.agent ∧
    (parkService p r u s).pending = s.pending := by
  unfold parkService
  refine ⟨?_, ?_, ?_, ?_, ?_, ?_, ?_, ?_⟩ <;>
    exact foldl_keeps _ _ (fun t c => by simp) _ s

/-- voltage leaves every block but engine, circuits, builder, events, refs. -/
@[simp] theorem voltage_keeps (p : PlanContents) (r : Fin 16) (x : RingSample) (s : State) :
    (voltage p r x s).part = s.part ∧ (voltage p r x s).links = s.links ∧ (voltage p r x s).sync = s.sync ∧
    (voltage p r x s).plan = s.plan ∧ (voltage p r x s).session = s.session ∧ (voltage p r x s).agent = s.agent ∧
    (voltage p r x s).pending = s.pending := by
  unfold voltage; dsimp only; (repeat' split) <;> simp

/-- parkSample leaves every block but circuits. -/
@[simp] theorem parkSample_keeps (c : Fin 96) (x : Parked) (s : State) :
    (parkSample c x s).part = s.part ∧ (parkSample c x s).links = s.links ∧ (parkSample c x s).sync = s.sync ∧
    (parkSample c x s).engine = s.engine ∧ (parkSample c x s).refs = s.refs ∧ (parkSample c x s).plan = s.plan ∧
    (parkSample c x s).builder = s.builder ∧ (parkSample c x s).session = s.session ∧
    (parkSample c x s).agent = s.agent ∧ (parkSample c x s).events = s.events ∧
    (parkSample c x s).pending = s.pending := by
  unfold parkSample; dsimp only; split <;> simp

/-- current leaves every block but engine, circuits, builder, events. -/
@[simp] theorem current_keeps (p : PlanContents) (c : Fin 96) (t v : Half) (s : State) :
    (current p c t v s).part = s.part ∧ (current p c t v s).links = s.links ∧ (current p c t v s).sync = s.sync ∧
    (current p c t v s).refs = s.refs ∧ (current p c t v s).plan = s.plan ∧ (current p c t v s).session = s.session ∧
    (current p c t v s).agent = s.agent ∧ (current p c t v s).pending = s.pending := by
  unfold current; dsimp only; (repeat' split) <;> simp

/-! ### Claims and timers -/

/-- flushAll leaves every block but circuits, refs. -/
@[simp] theorem flushAll_keeps  (s : State) :
    (flushAll s).part = s.part ∧ (flushAll s).links = s.links ∧ (flushAll s).sync = s.sync ∧
    (flushAll s).engine = s.engine ∧ (flushAll s).plan = s.plan ∧ (flushAll s).builder = s.builder ∧
    (flushAll s).session = s.session ∧ (flushAll s).agent = s.agent ∧ (flushAll s).events = s.events ∧
    (flushAll s).pending = s.pending := by
  unfold flushAll; simp

/-- postUnblocked leaves every block but events. -/
@[simp] theorem postUnblocked_keeps (c : Fin 96) (d : Direction) (s : State) :
    (postUnblocked c d s).part = s.part ∧ (postUnblocked c d s).links = s.links ∧
    (postUnblocked c d s).sync = s.sync ∧ (postUnblocked c d s).engine = s.engine ∧
    (postUnblocked c d s).circuits = s.circuits ∧ (postUnblocked c d s).refs = s.refs ∧
    (postUnblocked c d s).plan = s.plan ∧ (postUnblocked c d s).builder = s.builder ∧
    (postUnblocked c d s).session = s.session ∧ (postUnblocked c d s).agent = s.agent ∧
    (postUnblocked c d s).pending = s.pending := by
  unfold postUnblocked; simp

/-- postUnblockedBoth leaves every block but events. -/
@[simp] theorem postUnblockedBoth_keeps (c : Fin 96) (x : CircuitState) (s : State) :
    (postUnblockedBoth c x s).part = s.part ∧ (postUnblockedBoth c x s).links = s.links ∧
    (postUnblockedBoth c x s).sync = s.sync ∧ (postUnblockedBoth c x s).engine = s.engine ∧
    (postUnblockedBoth c x s).circuits = s.circuits ∧ (postUnblockedBoth c x s).refs = s.refs ∧
    (postUnblockedBoth c x s).plan = s.plan ∧ (postUnblockedBoth c x s).builder = s.builder ∧
    (postUnblockedBoth c x s).session = s.session ∧ (postUnblockedBoth c x s).agent = s.agent ∧
    (postUnblockedBoth c x s).pending = s.pending := by
  unfold postUnblockedBoth; dsimp only; (repeat' split) <;> simp

/-- closeCircuit leaves every block but circuits, builder, events. -/
@[simp] theorem closeCircuit_keeps (p : PlanContents) (c : Fin 96) (s : State) :
    (closeCircuit p s c).part = s.part ∧ (closeCircuit p s c).links = s.links ∧ (closeCircuit p s c).sync = s.sync ∧
    (closeCircuit p s c).engine = s.engine ∧ (closeCircuit p s c).refs = s.refs ∧
    (closeCircuit p s c).plan = s.plan ∧ (closeCircuit p s c).session = s.session ∧
    (closeCircuit p s c).agent = s.agent ∧ (closeCircuit p s c).pending = s.pending := by
  unfold closeCircuit; simp

/-- commitCircuit leaves every block but circuits, events. -/
@[simp] theorem commitCircuit_keeps (p q : PlanContents) (c : Fin 96) (s : State) :
    (commitCircuit p q s c).part = s.part ∧ (commitCircuit p q s c).links = s.links ∧
    (commitCircuit p q s c).sync = s.sync ∧ (commitCircuit p q s c).engine = s.engine ∧
    (commitCircuit p q s c).refs = s.refs ∧ (commitCircuit p q s c).plan = s.plan ∧
    (commitCircuit p q s c).builder = s.builder ∧ (commitCircuit p q s c).session = s.session ∧
    (commitCircuit p q s c).agent = s.agent ∧ (commitCircuit p q s c).pending = s.pending := by
  unfold commitCircuit; dsimp only; (repeat' split) <;> simp

/-- What a commit does to a circuit that R58 does not adjust: nothing, or the cleared floor values of R116. -/
theorem commitCircuit_not_kept {p q : PlanContents} {c : Fin 96} (h : keptCircuit p q c = false) (s : State) :
    commitCircuit p q s c = if newlyEnabled p q c then s.onCirc c clearFloor else s := by
  simp [commitCircuit, h]

/-- Clearing the floor values of a circuit with cleared running state changes nothing (R58, R116). -/
@[simp] theorem clearFloor_cleared : clearFloor .cleared = .cleared := rfl

/-- commitPartState leaves every block but part, plan. -/
@[simp] theorem commitPartState_keeps (p : PlanContents) (s : State) :
    (commitPartState p s).links = s.links ∧ (commitPartState p s).sync = s.sync ∧
    (commitPartState p s).engine = s.engine ∧ (commitPartState p s).circuits = s.circuits ∧
    (commitPartState p s).refs = s.refs ∧ (commitPartState p s).builder = s.builder ∧
    (commitPartState p s).session = s.session ∧ (commitPartState p s).agent = s.agent ∧
    (commitPartState p s).events = s.events ∧ (commitPartState p s).pending = s.pending := by
  unfold commitPartState; split <;> simp

/-- foldl_closeCircuit leaves every block but circuits, builder, events. -/
@[simp] theorem foldl_closeCircuit_keeps (p : PlanContents) (l : List (Fin 96)) (s : State) :
    (l.foldl (closeCircuit p) s).part = s.part ∧ (l.foldl (closeCircuit p) s).links = s.links ∧
    (l.foldl (closeCircuit p) s).sync = s.sync ∧ (l.foldl (closeCircuit p) s).engine = s.engine ∧
    (l.foldl (closeCircuit p) s).refs = s.refs ∧ (l.foldl (closeCircuit p) s).plan = s.plan ∧
    (l.foldl (closeCircuit p) s).session = s.session ∧ (l.foldl (closeCircuit p) s).agent = s.agent ∧
    (l.foldl (closeCircuit p) s).pending = s.pending := by
  refine ⟨?_, ?_, ?_, ?_, ?_, ?_, ?_, ?_, ?_⟩ <;>
    exact foldl_keeps _ _ (fun t c => by simp) _ _

/-- foldl_commitCircuit leaves every block but circuits, events. -/
@[simp] theorem foldl_commitCircuit_keeps (p q : PlanContents) (l : List (Fin 96)) (s : State) :
    (l.foldl (commitCircuit p q) s).part = s.part ∧ (l.foldl (commitCircuit p q) s).links = s.links ∧
    (l.foldl (commitCircuit p q) s).sync = s.sync ∧ (l.foldl (commitCircuit p q) s).engine = s.engine ∧
    (l.foldl (commitCircuit p q) s).refs = s.refs ∧ (l.foldl (commitCircuit p q) s).plan = s.plan ∧
    (l.foldl (commitCircuit p q) s).builder = s.builder ∧ (l.foldl (commitCircuit p q) s).session = s.session ∧
    (l.foldl (commitCircuit p q) s).agent = s.agent ∧ (l.foldl (commitCircuit p q) s).pending = s.pending := by
  refine ⟨?_, ?_, ?_, ?_, ?_, ?_, ?_, ?_, ?_, ?_⟩ <;>
    exact foldl_keeps _ _ (fun t c => by simp) _ _

/-- commitPlan leaves every block but part, circuits, refs, plan, builder, agent, events. -/
@[simp] theorem commitPlan_keeps (k : Word) (s : State) :
    (commitPlan k s).links = s.links ∧ (commitPlan k s).sync = s.sync ∧ (commitPlan k s).engine = s.engine ∧
    (commitPlan k s).session = s.session ∧ (commitPlan k s).pending = s.pending := by
  unfold commitPlan; simp

/-- takeCommit leaves every block but part, circuits, refs, plan, builder, agent, events. -/
@[simp] theorem takeCommit_keeps (k : Word) (s : State) :
    (takeCommit k s).links = s.links ∧ (takeCommit k s).sync = s.sync ∧ (takeCommit k s).engine = s.engine ∧
    (takeCommit k s).session = s.session ∧ (takeCommit k s).pending = s.pending := by
  unfold takeCommit; split <;> simp

/-- appendRecord leaves every block but session. -/
@[simp] theorem appendRecord_keeps (l : List Entry) (s : State) :
    (appendRecord l s).part = s.part ∧ (appendRecord l s).links = s.links ∧ (appendRecord l s).sync = s.sync ∧
    (appendRecord l s).engine = s.engine ∧ (appendRecord l s).circuits = s.circuits ∧
    (appendRecord l s).refs = s.refs ∧ (appendRecord l s).plan = s.plan ∧ (appendRecord l s).builder = s.builder ∧
    (appendRecord l s).agent = s.agent ∧ (appendRecord l s).events = s.events ∧
    (appendRecord l s).pending = s.pending := by
  unfold appendRecord; simp

/-- completeFlush leaves every block but agent. -/
@[simp] theorem completeFlush_keeps (x : Option (Half × Nat)) (s : State) :
    (completeFlush x s).part = s.part ∧ (completeFlush x s).links = s.links ∧ (completeFlush x s).sync = s.sync ∧
    (completeFlush x s).engine = s.engine ∧ (completeFlush x s).circuits = s.circuits ∧
    (completeFlush x s).refs = s.refs ∧ (completeFlush x s).plan = s.plan ∧ (completeFlush x s).builder = s.builder ∧
    (completeFlush x s).session = s.session ∧ (completeFlush x s).events = s.events ∧
    (completeFlush x s).pending = s.pending := by
  unfold completeFlush; simp

/-- buildFull leaves every block but circuits, builder, session, agent. -/
@[simp] theorem buildFull_keeps (x : Run) (s : State) :
    (buildFull x s).part = s.part ∧ (buildFull x s).links = s.links ∧ (buildFull x s).sync = s.sync ∧
    (buildFull x s).engine = s.engine ∧ (buildFull x s).refs = s.refs ∧ (buildFull x s).plan = s.plan ∧
    (buildFull x s).events = s.events ∧ (buildFull x s).pending = s.pending := by
  unfold buildFull; simp

/-- buildEmpty leaves every block but builder, session, agent. -/
@[simp] theorem buildEmpty_keeps  (s : State) :
    (buildEmpty s).part = s.part ∧ (buildEmpty s).links = s.links ∧ (buildEmpty s).sync = s.sync ∧
    (buildEmpty s).engine = s.engine ∧ (buildEmpty s).circuits = s.circuits ∧ (buildEmpty s).refs = s.refs ∧
    (buildEmpty s).plan = s.plan ∧ (buildEmpty s).events = s.events ∧ (buildEmpty s).pending = s.pending := by
  unfold buildEmpty; simp

/-- buildNothing leaves every block but builder, session, agent. -/
@[simp] theorem buildNothing_keeps (t : Triggers) (s : State) :
    (buildNothing t s).part = s.part ∧ (buildNothing t s).links = s.links ∧ (buildNothing t s).sync = s.sync ∧
    (buildNothing t s).engine = s.engine ∧ (buildNothing t s).circuits = s.circuits ∧
    (buildNothing t s).refs = s.refs ∧ (buildNothing t s).plan = s.plan ∧ (buildNothing t s).events = s.events ∧
    (buildNothing t s).pending = s.pending := by
  unfold buildNothing; (repeat' split) <;> simp

/-- runBuilder leaves every block but circuits, builder, session, agent. -/
@[simp] theorem runBuilder_keeps (t : Triggers) (s : State) :
    (runBuilder t s).part = s.part ∧ (runBuilder t s).links = s.links ∧ (runBuilder t s).sync = s.sync ∧
    (runBuilder t s).engine = s.engine ∧ (runBuilder t s).refs = s.refs ∧ (runBuilder t s).plan = s.plan ∧
    (runBuilder t s).events = s.events ∧ (runBuilder t s).pending = s.pending := by
  unfold runBuilder; dsimp only; (repeat' split) <;> simp

/-- unblockTest leaves every block but circuits, events. -/
@[simp] theorem unblockTest_keeps (c : Fin 96) (d : Direction) (s : State) :
    (unblockTest c d s).part = s.part ∧ (unblockTest c d s).links = s.links ∧ (unblockTest c d s).sync = s.sync ∧
    (unblockTest c d s).engine = s.engine ∧ (unblockTest c d s).refs = s.refs ∧ (unblockTest c d s).plan = s.plan ∧
    (unblockTest c d s).builder = s.builder ∧ (unblockTest c d s).session = s.session ∧
    (unblockTest c d s).agent = s.agent ∧ (unblockTest c d s).pending = s.pending := by
  unfold unblockTest; dsimp only; split <;> simp

/-- lowerInFlight leaves every block but circuits. -/
@[simp] theorem lowerInFlight_keeps (u : UnitsRef) (s : State) :
    (lowerInFlight s u).part = s.part ∧ (lowerInFlight s u).links = s.links ∧ (lowerInFlight s u).sync = s.sync ∧
    (lowerInFlight s u).engine = s.engine ∧ (lowerInFlight s u).refs = s.refs ∧ (lowerInFlight s u).plan = s.plan ∧
    (lowerInFlight s u).builder = s.builder ∧ (lowerInFlight s u).session = s.session ∧
    (lowerInFlight s u).agent = s.agent ∧ (lowerInFlight s u).events = s.events ∧
    (lowerInFlight s u).pending = s.pending := by
  unfold lowerInFlight; simp

/-- foldl_unblockTest leaves every block but circuits, events. -/
@[simp] theorem foldl_unblockTest_keeps (l : List UnitsRef) (s : State) :
    (l.foldl (fun t u => unblockTest u.circuit u.direction t) s).part = s.part ∧
    (l.foldl (fun t u => unblockTest u.circuit u.direction t) s).links = s.links ∧
    (l.foldl (fun t u => unblockTest u.circuit u.direction t) s).sync = s.sync ∧
    (l.foldl (fun t u => unblockTest u.circuit u.direction t) s).engine = s.engine ∧
    (l.foldl (fun t u => unblockTest u.circuit u.direction t) s).refs = s.refs ∧
    (l.foldl (fun t u => unblockTest u.circuit u.direction t) s).plan = s.plan ∧
    (l.foldl (fun t u => unblockTest u.circuit u.direction t) s).builder = s.builder ∧
    (l.foldl (fun t u => unblockTest u.circuit u.direction t) s).session = s.session ∧
    (l.foldl (fun t u => unblockTest u.circuit u.direction t) s).agent = s.agent ∧
    (l.foldl (fun t u => unblockTest u.circuit u.direction t) s).pending = s.pending := by
  refine ⟨?_, ?_, ?_, ?_, ?_, ?_, ?_, ?_, ?_, ?_⟩ <;>
    exact foldl_keeps _ _ (fun t c => by simp) _ _

/-- foldl_lowerInFlight leaves every block but circuits. -/
@[simp] theorem foldl_lowerInFlight_keeps (l : List UnitsRef) (s : State) :
    (l.foldl lowerInFlight s).part = s.part ∧ (l.foldl lowerInFlight s).links = s.links ∧
    (l.foldl lowerInFlight s).sync = s.sync ∧ (l.foldl lowerInFlight s).engine = s.engine ∧
    (l.foldl lowerInFlight s).refs = s.refs ∧ (l.foldl lowerInFlight s).plan = s.plan ∧
    (l.foldl lowerInFlight s).builder = s.builder ∧ (l.foldl lowerInFlight s).session = s.session ∧
    (l.foldl lowerInFlight s).agent = s.agent ∧ (l.foldl lowerInFlight s).events = s.events ∧
    (l.foldl lowerInFlight s).pending = s.pending := by
  refine ⟨?_, ?_, ?_, ?_, ?_, ?_, ?_, ?_, ?_, ?_, ?_⟩ <;>
    exact foldl_keeps _ _ (fun t c => by simp) _ _

/-- releaseUnits leaves every block but circuits, events. -/
@[simp] theorem releaseUnits_keeps (l : List UnitsRef) (s : State) :
    (releaseUnits l s).part = s.part ∧ (releaseUnits l s).links = s.links ∧ (releaseUnits l s).sync = s.sync ∧
    (releaseUnits l s).engine = s.engine ∧ (releaseUnits l s).refs = s.refs ∧ (releaseUnits l s).plan = s.plan ∧
    (releaseUnits l s).builder = s.builder ∧ (releaseUnits l s).session = s.session ∧
    (releaseUnits l s).agent = s.agent ∧ (releaseUnits l s).pending = s.pending := by
  unfold releaseUnits; simp

/-- restoreUnits leaves every block but circuits. -/
@[simp] theorem restoreUnits_keeps (u : UnitsRef) (s : State) :
    (restoreUnits s u).part = s.part ∧ (restoreUnits s u).links = s.links ∧ (restoreUnits s u).sync = s.sync ∧
    (restoreUnits s u).engine = s.engine ∧ (restoreUnits s u).refs = s.refs ∧ (restoreUnits s u).plan = s.plan ∧
    (restoreUnits s u).builder = s.builder ∧ (restoreUnits s u).session = s.session ∧
    (restoreUnits s u).agent = s.agent ∧ (restoreUnits s u).events = s.events ∧
    (restoreUnits s u).pending = s.pending := by
  unfold restoreUnits; simp

/-- foldl_restoreUnits leaves every block but circuits. -/
@[simp] theorem foldl_restoreUnits_keeps (l : List UnitsRef) (s : State) :
    (l.foldl restoreUnits s).part = s.part ∧ (l.foldl restoreUnits s).links = s.links ∧
    (l.foldl restoreUnits s).sync = s.sync ∧ (l.foldl restoreUnits s).engine = s.engine ∧
    (l.foldl restoreUnits s).refs = s.refs ∧ (l.foldl restoreUnits s).plan = s.plan ∧
    (l.foldl restoreUnits s).builder = s.builder ∧ (l.foldl restoreUnits s).session = s.session ∧
    (l.foldl restoreUnits s).agent = s.agent ∧ (l.foldl restoreUnits s).events = s.events ∧
    (l.foldl restoreUnits s).pending = s.pending := by
  refine ⟨?_, ?_, ?_, ?_, ?_, ?_, ?_, ?_, ?_, ?_, ?_⟩ <;>
    exact foldl_keeps _ _ (fun t c => by simp) _ _

/-- completeClose leaves every block but agent. -/
@[simp] theorem completeClose_keeps  (s : State) :
    (completeClose s).part = s.part ∧ (completeClose s).links = s.links ∧ (completeClose s).sync = s.sync ∧
    (completeClose s).engine = s.engine ∧ (completeClose s).circuits = s.circuits ∧ (completeClose s).refs = s.refs ∧
    (completeClose s).plan = s.plan ∧ (completeClose s).builder = s.builder ∧ (completeClose s).session = s.session ∧
    (completeClose s).events = s.events ∧ (completeClose s).pending = s.pending := by
  unfold completeClose; split <;> simp

/-- clearCircuit leaves every block but circuits, events. -/
@[simp] theorem clearCircuit_keeps (c : Fin 96) (s : State) :
    (clearCircuit s c).part = s.part ∧ (clearCircuit s c).links = s.links ∧ (clearCircuit s c).sync = s.sync ∧
    (clearCircuit s c).engine = s.engine ∧ (clearCircuit s c).refs = s.refs ∧ (clearCircuit s c).plan = s.plan ∧
    (clearCircuit s c).builder = s.builder ∧ (clearCircuit s c).session = s.session ∧
    (clearCircuit s c).agent = s.agent ∧ (clearCircuit s c).pending = s.pending := by
  unfold clearCircuit; simp

/-- foldl_clearCircuit leaves every block but circuits, events. -/
@[simp] theorem foldl_clearCircuit_keeps (l : List (Fin 96)) (s : State) :
    (l.foldl clearCircuit s).part = s.part ∧ (l.foldl clearCircuit s).links = s.links ∧
    (l.foldl clearCircuit s).sync = s.sync ∧ (l.foldl clearCircuit s).engine = s.engine ∧
    (l.foldl clearCircuit s).refs = s.refs ∧ (l.foldl clearCircuit s).plan = s.plan ∧
    (l.foldl clearCircuit s).builder = s.builder ∧ (l.foldl clearCircuit s).session = s.session ∧
    (l.foldl clearCircuit s).agent = s.agent ∧ (l.foldl clearCircuit s).pending = s.pending := by
  refine ⟨?_, ?_, ?_, ?_, ?_, ?_, ?_, ?_, ?_, ?_⟩ <;>
    exact foldl_keeps _ _ (fun t c => by simp) _ _

/-- clearMetering leaves every block but circuits, builder, agent, events. -/
@[simp] theorem clearMetering_keeps  (s : State) :
    (clearMetering s).part = s.part ∧ (clearMetering s).links = s.links ∧ (clearMetering s).sync = s.sync ∧
    (clearMetering s).engine = s.engine ∧ (clearMetering s).refs = s.refs ∧ (clearMetering s).plan = s.plan ∧
    (clearMetering s).session = s.session ∧ (clearMetering s).pending = s.pending := by
  unfold clearMetering; simp

/-- faultPlan leaves every block but part, engine, plan, events. -/
@[simp] theorem faultPlan_keeps (k : Word) (s : State) :
    (faultPlan k s).links = s.links ∧ (faultPlan k s).sync = s.sync ∧ (faultPlan k s).circuits = s.circuits ∧
    (faultPlan k s).refs = s.refs ∧ (faultPlan k s).builder = s.builder ∧ (faultPlan k s).session = s.session ∧
    (faultPlan k s).agent = s.agent ∧ (faultPlan k s).pending = s.pending := by
  unfold faultPlan; simp

/-- retransmitExpiry leaves every block but session, events. -/
@[simp] theorem retransmitExpiry_keeps  (s : State) :
    (retransmitExpiry s).part = s.part ∧ (retransmitExpiry s).links = s.links ∧ (retransmitExpiry s).sync = s.sync ∧
    (retransmitExpiry s).engine = s.engine ∧ (retransmitExpiry s).circuits = s.circuits ∧
    (retransmitExpiry s).refs = s.refs ∧ (retransmitExpiry s).plan = s.plan ∧
    (retransmitExpiry s).builder = s.builder ∧ (retransmitExpiry s).agent = s.agent ∧
    (retransmitExpiry s).pending = s.pending := by
  unfold retransmitExpiry; dsimp only; split <;> simp

/-! ### Commands of chapter 9 -/

/-- onShadow leaves every block but plan. -/
@[simp] theorem onShadow_keeps (f : PlanContents → PlanContents) (s : State) :
    (onShadow f s).part = s.part ∧ (onShadow f s).links = s.links ∧ (onShadow f s).sync = s.sync ∧
    (onShadow f s).engine = s.engine ∧ (onShadow f s).circuits = s.circuits ∧ (onShadow f s).refs = s.refs ∧
    (onShadow f s).builder = s.builder ∧ (onShadow f s).session = s.session ∧ (onShadow f s).agent = s.agent ∧
    (onShadow f s).events = s.events ∧ (onShadow f s).pending = s.pending := by
  unfold onShadow; simp

/-- streamLoad leaves every block but plan, agent. -/
@[simp] theorem streamLoad_keeps (l : List Byte) (s : State) :
    (streamLoad l s).part = s.part ∧ (streamLoad l s).links = s.links ∧ (streamLoad l s).sync = s.sync ∧
    (streamLoad l s).engine = s.engine ∧ (streamLoad l s).circuits = s.circuits ∧ (streamLoad l s).refs = s.refs ∧
    (streamLoad l s).builder = s.builder ∧ (streamLoad l s).session = s.session ∧
    (streamLoad l s).events = s.events ∧ (streamLoad l s).pending = s.pending := by
  unfold streamLoad; dsimp only; (repeat' split) <;> simp

/-- streamRemove leaves every block but plan, agent. -/
@[simp] theorem streamRemove_keeps (l : List Byte) (s : State) :
    (streamRemove l s).part = s.part ∧ (streamRemove l s).links = s.links ∧ (streamRemove l s).sync = s.sync ∧
    (streamRemove l s).engine = s.engine ∧ (streamRemove l s).circuits = s.circuits ∧
    (streamRemove l s).refs = s.refs ∧ (streamRemove l s).builder = s.builder ∧
    (streamRemove l s).session = s.session ∧ (streamRemove l s).events = s.events ∧
    (streamRemove l s).pending = s.pending := by
  unfold streamRemove; dsimp only; (repeat' split) <;> simp

/-- circuitLoad leaves every block but plan, agent. -/
@[simp] theorem circuitLoad_keeps (l : List Byte) (s : State) :
    (circuitLoad l s).part = s.part ∧ (circuitLoad l s).links = s.links ∧ (circuitLoad l s).sync = s.sync ∧
    (circuitLoad l s).engine = s.engine ∧ (circuitLoad l s).circuits = s.circuits ∧ (circuitLoad l s).refs = s.refs ∧
    (circuitLoad l s).builder = s.builder ∧ (circuitLoad l s).session = s.session ∧
    (circuitLoad l s).events = s.events ∧ (circuitLoad l s).pending = s.pending := by
  unfold circuitLoad; (repeat' split) <;> simp

/-- referenceLoad leaves every block but plan, agent. -/
@[simp] theorem referenceLoad_keeps (l : List Byte) (s : State) :
    (referenceLoad l s).part = s.part ∧ (referenceLoad l s).links = s.links ∧ (referenceLoad l s).sync = s.sync ∧
    (referenceLoad l s).engine = s.engine ∧ (referenceLoad l s).circuits = s.circuits ∧
    (referenceLoad l s).refs = s.refs ∧ (referenceLoad l s).builder = s.builder ∧
    (referenceLoad l s).session = s.session ∧ (referenceLoad l s).events = s.events ∧
    (referenceLoad l s).pending = s.pending := by
  unfold referenceLoad; (repeat' split) <;> simp

/-- planRead leaves every block but agent. -/
@[simp] theorem planRead_keeps (l : List Byte) (s : State) :
    (planRead l s).part = s.part ∧ (planRead l s).links = s.links ∧ (planRead l s).sync = s.sync ∧
    (planRead l s).engine = s.engine ∧ (planRead l s).circuits = s.circuits ∧ (planRead l s).refs = s.refs ∧
    (planRead l s).plan = s.plan ∧ (planRead l s).builder = s.builder ∧ (planRead l s).session = s.session ∧
    (planRead l s).events = s.events ∧ (planRead l s).pending = s.pending := by
  unfold planRead; dsimp only; split <;> simp

/-- planCommit leaves every block but engine, agent. -/
@[simp] theorem planCommit_keeps (l : List Byte) (s : State) :
    (planCommit l s).part = s.part ∧ (planCommit l s).links = s.links ∧ (planCommit l s).sync = s.sync ∧
    (planCommit l s).circuits = s.circuits ∧ (planCommit l s).refs = s.refs ∧ (planCommit l s).plan = s.plan ∧
    (planCommit l s).builder = s.builder ∧ (planCommit l s).session = s.session ∧
    (planCommit l s).events = s.events ∧ (planCommit l s).pending = s.pending := by
  unfold planCommit; dsimp only; (repeat' split) <;> simp

/-- openSession leaves every block but builder, session. -/
@[simp] theorem openSession_keeps (i q : Half) (s : State) :
    (openSession i q s).part = s.part ∧ (openSession i q s).links = s.links ∧ (openSession i q s).sync = s.sync ∧
    (openSession i q s).engine = s.engine ∧ (openSession i q s).circuits = s.circuits ∧
    (openSession i q s).refs = s.refs ∧ (openSession i q s).plan = s.plan ∧ (openSession i q s).agent = s.agent ∧
    (openSession i q s).events = s.events ∧ (openSession i q s).pending = s.pending := by
  unfold openSession; simp

/-- sessionOpen leaves every block but builder, session, agent. -/
@[simp] theorem sessionOpen_keeps (l : List Byte) (s : State) :
    (sessionOpen l s).part = s.part ∧ (sessionOpen l s).links = s.links ∧ (sessionOpen l s).sync = s.sync ∧
    (sessionOpen l s).engine = s.engine ∧ (sessionOpen l s).circuits = s.circuits ∧ (sessionOpen l s).refs = s.refs ∧
    (sessionOpen l s).plan = s.plan ∧ (sessionOpen l s).events = s.events ∧
    (sessionOpen l s).pending = s.pending := by
  unfold sessionOpen; split <;> simp

/-- closeSession leaves every block but links, engine, builder, session, agent. -/
@[simp] theorem closeSession_keeps  (s : State) :
    (closeSession s).part = s.part ∧ (closeSession s).sync = s.sync ∧ (closeSession s).circuits = s.circuits ∧
    (closeSession s).refs = s.refs ∧ (closeSession s).plan = s.plan ∧ (closeSession s).events = s.events ∧
    (closeSession s).pending = s.pending := by
  unfold closeSession; dsimp only; split <;> simp

/-- reportConfig leaves every block but builder, session, agent. -/
@[simp] theorem reportConfig_keeps (l : List Byte) (s : State) :
    (reportConfig l s).part = s.part ∧ (reportConfig l s).links = s.links ∧ (reportConfig l s).sync = s.sync ∧
    (reportConfig l s).engine = s.engine ∧ (reportConfig l s).circuits = s.circuits ∧
    (reportConfig l s).refs = s.refs ∧ (reportConfig l s).plan = s.plan ∧ (reportConfig l s).events = s.events ∧
    (reportConfig l s).pending = s.pending := by
  unfold reportConfig; simp

/-- flushTrigger leaves every block but builder, engine. -/
@[simp] theorem flushTrigger_keeps  (s : State) :
    (flushTrigger s).part = s.part ∧ (flushTrigger s).links = s.links ∧ (flushTrigger s).sync = s.sync ∧
    (flushTrigger s).circuits = s.circuits ∧ (flushTrigger s).refs = s.refs ∧ (flushTrigger s).plan = s.plan ∧
    (flushTrigger s).session = s.session ∧ (flushTrigger s).agent = s.agent ∧ (flushTrigger s).events = s.events ∧
    (flushTrigger s).pending = s.pending := by
  unfold flushTrigger; simp

/-- reportFlush leaves every block but builder, engine, agent. -/
@[simp] theorem reportFlush_keeps  (s : State) :
    (reportFlush s).part = s.part ∧ (reportFlush s).links = s.links ∧ (reportFlush s).sync = s.sync ∧
    (reportFlush s).circuits = s.circuits ∧ (reportFlush s).refs = s.refs ∧ (reportFlush s).plan = s.plan ∧
    (reportFlush s).session = s.session ∧ (reportFlush s).events = s.events ∧
    (reportFlush s).pending = s.pending := by
  unfold reportFlush; (repeat' split) <;> simp

/-- circuitRead leaves every block but engine, agent. -/
@[simp] theorem circuitRead_keeps (l : List Byte) (s : State) :
    (circuitRead l s).part = s.part ∧ (circuitRead l s).links = s.links ∧ (circuitRead l s).sync = s.sync ∧
    (circuitRead l s).circuits = s.circuits ∧ (circuitRead l s).refs = s.refs ∧ (circuitRead l s).plan = s.plan ∧
    (circuitRead l s).builder = s.builder ∧ (circuitRead l s).session = s.session ∧
    (circuitRead l s).events = s.events ∧ (circuitRead l s).pending = s.pending := by
  unfold circuitRead; simp

/-- referenceRead leaves every block but engine, agent. -/
@[simp] theorem referenceRead_keeps (l : List Byte) (s : State) :
    (referenceRead l s).part = s.part ∧ (referenceRead l s).links = s.links ∧ (referenceRead l s).sync = s.sync ∧
    (referenceRead l s).circuits = s.circuits ∧ (referenceRead l s).refs = s.refs ∧
    (referenceRead l s).plan = s.plan ∧ (referenceRead l s).builder = s.builder ∧
    (referenceRead l s).session = s.session ∧ (referenceRead l s).events = s.events ∧
    (referenceRead l s).pending = s.pending := by
  unfold referenceRead; simp

/-- eventConfig leaves every block but agent, events. -/
@[simp] theorem eventConfig_keeps (l : List Byte) (s : State) :
    (eventConfig l s).part = s.part ∧ (eventConfig l s).links = s.links ∧ (eventConfig l s).sync = s.sync ∧
    (eventConfig l s).engine = s.engine ∧ (eventConfig l s).circuits = s.circuits ∧ (eventConfig l s).refs = s.refs ∧
    (eventConfig l s).plan = s.plan ∧ (eventConfig l s).builder = s.builder ∧ (eventConfig l s).session = s.session ∧
    (eventConfig l s).pending = s.pending := by
  unfold eventConfig; simp

/-- setPending leaves every block but agent. -/
@[simp] theorem setPending_keeps (n : Option Nat) (s : State) :
    (setPending n s).part = s.part ∧ (setPending n s).links = s.links ∧ (setPending n s).sync = s.sync ∧
    (setPending n s).engine = s.engine ∧ (setPending n s).circuits = s.circuits ∧ (setPending n s).refs = s.refs ∧
    (setPending n s).plan = s.plan ∧ (setPending n s).builder = s.builder ∧ (setPending n s).session = s.session ∧
    (setPending n s).events = s.events ∧ (setPending n s).pending = s.pending := by
  unfold setPending; simp

end Sys2Proof.Machine
end

