-- ==== Sys2Proof/Laws/Metering.lean ====
section
/-! SUPPORT. What metering a sample leaves of the engine: only the waiting claims can change, by an urgent trigger (R95). -/

namespace Sys2Proof.Machine

/-- Of two states, the second has the engine of the first but for its waiting claims. -/
def SameButClaims (s t : State) : Prop := t.engine = { s.engine with claims := t.engine.claims }

/-- Nothing changed. -/
theorem SameButClaims.refl (s : State) : SameButClaims s s := rfl

/-- An engine left alone. -/
theorem SameButClaims.of_engine {s t : State} (h : t.engine = s.engine) : SameButClaims s t := by
  unfold SameButClaims; rw [h]

/-- One after another. -/
theorem SameButClaims.trans {s t u : State} (h : SameButClaims s t) (k : SameButClaims t u) : SameButClaims s u := by
  unfold SameButClaims at *; rw [k, h]

/-- The fields a prover reads. -/
theorem SameButClaims.fields {s t : State} (h : SameButClaims s t) :
    t.engine.queue = s.engine.queue ∧ t.engine.metering = s.engine.metering ∧ t.engine.lastScan = s.engine.lastScan ∧
    t.engine.counters = s.engine.counters := by
  unfold SameButClaims at h; rw [h]; exact ⟨rfl, rfl, rfl, rfl⟩

/-- A trigger changes at most the claims (R125). -/
theorem trigger_claims (t : Triggers) (s : State) : SameButClaims s (trigger t s) := by
  unfold trigger; split
  · split
    · exact .of_engine rfl
    · rfl
  · exact .of_engine rfl

/-- A generated unit changes at most the claims (R95). -/
theorem generateUnit_claims (r : CircuitRecord) (c : Fin 96) (d : Direction) (s : State) :
    SameButClaims s (generateUnit r c d s) := by
  unfold generateUnit; dsimp only; split
  · exact .trans (.of_engine rfl) (trigger_claims _ _)
  · exact .of_engine rfl

/-- A due unit changes at most the claims (R95, R96). -/
theorem unitDue_claims (r : CircuitRecord) (c : Fin 96) (d : Direction) (s : State) :
    SameButClaims s (unitDue r c d s) := by
  unfold unitDue; split
  · exact generateUnit_claims r c d s
  · exact .of_engine rfl

/-- An overflow changes at most the claims (R93, R94). -/
theorem takeOverflow_claims (r : CircuitRecord) (c : Fin 96) (d : Direction) (s : State) :
    SameButClaims s (takeOverflow r c d s) := by
  unfold takeOverflow; dsimp only; split
  · exact .trans (.of_engine rfl) (unitDue_claims _ _ _ _)
  · exact .of_engine rfl

/-- An overflow check changes at most the claims (R93, R98). -/
theorem overflowCheck_claims (r : CircuitRecord) (c : Fin 96) (d : Direction) (s : State) :
    SameButClaims s (overflowCheck r c d s).1 := by
  unfold overflowCheck; dsimp only; split
  · split
    · exact .of_engine (by simp)
    · exact takeOverflow_claims r c d s
  · rfl

/-- A pair changes at most the claims (R101). -/
theorem accumulatePair_claims (r : CircuitRecord) (c : Fin 96) (i v : Half) (s : State) :
    SameButClaims s (accumulatePair r c i v s) := by
  unfold accumulatePair; dsimp only; split
  · exact .of_engine (by simp)
  · refine .trans ?_ (.of_engine (floorAtPair_keeps _ _ _ _).2.2.2.1)
    refine .trans (.of_engine ?_) (overflowCheck_claims _ _ _ _)
    rfl

/-- A formed pair changes at most the claims (R77, R89). -/
theorem formPair_claims (p : PlanContents) (c : Fin 96) (i v : Half) (s : State) : SameButClaims s (formPair p c i v s) := by
  unfold formPair; dsimp only; split
  · exact accumulatePair_claims _ c i v s
  · exact .of_engine rfl

/-- Serving a park queue changes at most the claims (R88). -/
theorem servePark_claims (p : PlanContents) (ring : List RingSample) (u : Half) (c : Fin 96) (l : List Parked) (s : State) :
    SameButClaims s (servePark p ring u c l s) := by
  induction l generalizing s with
  | nil => rfl
  | cons h rest ih =>
    unfold servePark; split
    · rfl
    · refine .trans ?_ (ih _)
      split
      · exact .trans (.of_engine rfl) (formPair_claims _ _ _ _ _)
      · exact .of_engine rfl

/-- Park service changes at most the claims (R88). -/
theorem parkService_claims (p : PlanContents) (r : Fin 16) (u : Half) (s : State) :
    SameButClaims s (parkService p r u s) := by
  unfold parkService
  generalize servedCircuits p r = l
  induction l generalizing s with
  | nil => rfl
  | cons c rest ih => exact .trans (servePark_claims _ _ _ _ _ _) (ih _)

/-- A voltage sample changes at most the claims (R66, R67). -/
theorem voltage_claims (p : PlanContents) (r : Fin 16) (x : RingSample) (s : State) : SameButClaims s (voltage p r x s) := by
  unfold voltage; dsimp only; split
  · exact .of_engine rfl
  · split
    · exact .of_engine rfl
    · refine .trans ?_ (parkService_claims _ _ _ _)
      split
      · exact .of_engine (by simp)
      · exact .of_engine rfl

/-- A current sample changes at most the claims (R86). -/
theorem current_claims (p : PlanContents) (c : Fin 96) (t v : Half) (s : State) : SameButClaims s (current p c t v s) := by
  unfold current; dsimp only; split
  · exact formPair_claims _ _ _ _ _
  · exact .of_engine (by split; · rfl
                         · split <;> simp)

end Sys2Proof.Machine
end

