-- ==== Sys2Proof/Tests/Slice0.lean ====
section
/-! SUPPORT. Tests: the well-formedness smoke test, one or two single steps per command with results taken from the rules and the worked sequences of the spec, and a witness for the hypotheses of each statement. -/

namespace Sys2Proof.Tests

open Sys2Proof.Machine

set_option Elab.async false

/-! ### Small states -/

/-- The state after a command, which always answers a next state. -/
def after (i : Instr) (s : State) : State :=
  match exec i s with
  | .next t => t
  | .fault _ => s
  | .refused _ => s

/-- A port in UP with signal on its line. -/
def portUp : Port := { Port.reset .signal with state := .up }

/-- A part in IDLE with tap address 9, 1000 ms after STARTING, with both ports in UP. -/
def idle : State :=
  { State.reset with
    part := { State.reset.part with state := .idle, tap := 9, relayDrive := true, ms := 1000 }
    links := { State.reset.links with field := portUp, head := portUp } }

/-- The idle part in another part state. -/
def partIn (p : PartState) : State := { idle with part := { idle.part with state := p } }

/-- The idle part with another Field port. -/
def withField (q : Port) : State := { idle with links := { idle.links with field := q } }

/-- The idle part with another Head port. -/
def withHead (q : Port) : State := { idle with links := { idle.links with head := q } }

/-- The idle part with one queued command addressed to it. -/
def commanded (k : CommandCode) (args : List Byte) (s : State) : State :=
  { s with agent := { s.agent with queue := [⟨7, commandOctet k, args, none⟩] } }

/-- The response retained last. -/
def answer (s : State) : Option (Status × List Byte) := s.agent.retained.map fun r => (r.status, r.results)

/-- Circuit 0 as the worked sequence of chapter 6 configures its circuit, with reference 0. -/
def record : CircuitRecord :=
  { clearedCircuitRecord with
    enabled := true, account := 5, offset := 40, quantum := 1000000, divisor := 2, acceleration := 1
    floorEnable := true, floorStep := 1000, floorLimit := 5000 }

/-- A plan with circuit 0 and reference 0, fed by channels 1 and 0 of node 10. -/
def plan : PlanContents where
  streams := [⟨10, 0, .voltage 0⟩, ⟨10, 1, .current 0⟩]
  circuits := record :: List.replicate 95 clearedCircuitRecord
  references := { clearedRefRecord with enabled := true, censusEnable := true, bandMin := 10, bandMax := 100 } ::
    List.replicate 15 clearedRefRecord

/-- A part in METERING under that plan: sync LOCKED at epoch 1, reference 0 QUALIFIED. -/
def metering : State :=
  { partIn .metering with
    sync := { Sync.reset with state := .locked, epoch := 1, interval := some 100, timer := some 300 }
    plan := { PlanStore.reset with active := ⟨plan, 1, 0⟩, shadow := ⟨plan, 1, 0⟩, pass := .waiting 100 }
    refs := idle.refs.set 0 { RefState.reset with census := .restarted .qualified } }

/-- The metering part with one sample of a frame still to be handled. -/
def sampling (d : DueSample) : State := { metering with engine := { metering.engine with metering := some ⟨plan, [d]⟩ } }

/-- The metering part with one claim waiting. -/
def claiming (c : Claim) : State := { metering with engine := { metering.engine with claims := [c] } }

/-- The idle part with session 7 OPEN from sequence 1. -/
def opened (s : State) : State :=
  { s with
    session := { s.session with state := .open_, id := some 7, next := 1, highest := some 0 }
    builder := { s.builder with timer := some 10000 } }

/-- A record of session 7 with 3 IMPORT units of circuit 0. -/
def sentRecord : Record := ⟨7, 1, 1, 0, .locked, [.units ⟨0, .imp, 3, false, false⟩ 5], .sent⟩

/-- The metering part with that record sent and its units in flight. -/
def owing : State :=
  { opened metering with
    session := { (opened metering).session with
      next := 2, highest := some 1, queue := [sentRecord], timer := some 500 }
    circuits := metering.circuits.set 0
      { CircuitState.cleared with imp := { DirState.cleared with inFlight := 3 } } }

/-- That part with the time of every timer at its end. -/
def expired : State :=
  { owing with
    sync := { owing.sync with timer := some 0 }
    plan := { owing.plan with pass := .waiting 0 }
    builder := { owing.builder with timer := some 0 }
    session := { owing.session with timer := some 0 } }

/-! ### Well-formedness -/

/-- A disturbance is well formed when what it leaves is a bank's contents. -/
theorem test_disturbance_of_a_plan_is_well_formed : (Instr.storageDisturbance plan 0 0).wellFormed = true := by
  decide +kernel

/-- More than 256 stream entries are refused. -/
theorem test_too_many_entries_are_ill_formed : (Instr.storageDisturbance { plan with
    streams := (List.range 257).map fun i => ⟨Fin.ofNat 255 (i / 8), Fin.ofNat 8 i, .ignore⟩ } 0 0).wellFormed = false := by
  decide +kernel

/-- Keys out of order are refused. -/
theorem test_keys_out_of_order_are_ill_formed :
    (Instr.storageDisturbance { plan with streams := plan.streams.reverse } 0 0).wellFormed = false := by decide +kernel

/-- A number of circuit records other than 96 is refused. -/
theorem test_missing_circuit_is_ill_formed :
    (Instr.storageDisturbance { plan with circuits := plan.circuits.tail } 0 0).wellFormed = false := by decide +kernel

/-- A number of reference records other than 16 is refused. -/
theorem test_missing_reference_is_ill_formed :
    (Instr.storageDisturbance { plan with references := plan.references.tail } 0 0).wellFormed = false := by decide +kernel

/-! ### Checks (R191, R198: the check values of the nine octets 31 to 39 hexadecimal) -/

/-- R191 gives 0x29B1. -/
theorem test_crc16_of_the_check_octets :
    crc16 [0x31, 0x32, 0x33, 0x34, 0x35, 0x36, 0x37, 0x38, 0x39] = 0x29B1 := by decide +kernel

/-- R198 gives 0xCBF43926. -/
theorem test_crc32_of_the_check_octets :
    crc32 [0x31, 0x32, 0x33, 0x34, 0x35, 0x36, 0x37, 0x38, 0x39] = 0xCBF43926 := by decide +kernel

/-- No row of the table has bits, so no word spells a command. -/
theorem test_no_word_spells_a_command : decodeTableWord 8 0x30 = none := by decide

/-! ### Links (chapter 1) -/

/-- R1: signal returns at a port in DOWN, which qualifies from zero. -/
theorem test_signal_return : (after (.signalReturn .field) (withField (.reset .noSignal))).links.field.qualified = some 0 := by
  decide +kernel

/-- R1: LINK_UP is posted by a port that enters UP. -/
theorem test_link_up :
    let t := after (.linkUp .head) (withHead { Port.reset .signal with qualified := some 1 })
    t.links.head.state = .up ∧ t.events.queue = [⟨.linkUp, 1, 0, 1000, 0, false⟩] := by decide +kernel

/-- R2, R148: a loss of the Head link in OPEN. -/
theorem test_signal_loss :
    let t := after (.signalLoss .head) (opened idle)
    t.session.state = .hold ∧ t.session.cause = .link ∧ t.links.head.counters.linkDowns = 1 := by decide +kernel

/-- R3, R4: a break of the Head line. -/
theorem test_break_onset :
    let t := after (.breakOnset .head) idle
    t.links.head.state = .break_ ∧ t.links.breakTimer = some 0 ∧ t.events.queue = [⟨.linkDown, 1, 0, 1000, 1, false⟩] := by
  decide +kernel

/-- R3: a break that ends without signal leaves the port in DOWN. -/
theorem test_break_release :
    let t := after (.breakRelease .field false) (withField { Port.reset .break_ with state := .break_ })
    t.links.field.state = .down ∧ t.links.field.line = .noSignal ∧ t.links.field.qualified = none := by decide +kernel

/-- R4, R183: the break reset. -/
theorem test_break_timer_expiry :
    let t := after .breakTimerExpiry
      { withHead { Port.reset .break_ with state := .break_ } with
        links := { idle.links with head := { Port.reset .break_ with state := .break_ }, breakTimer := some 40 } }
    t.part.state = .bypass ∧ t.part.cause = .break_ ∧ t.part.relayDrive = false := by decide +kernel

/-- R6: a frame start inside a frame aborts the reception. -/
theorem test_frame_start :
    let t := after (.frameStart .field) (withField { portUp with reception := .assembling [0x10] })
    t.links.field.reception = .assembling [] ∧ t.links.field.counters.abortedReceptions = 1 := by decide +kernel

/-- R7: the octet after the 1,024th makes a giant. -/
theorem test_frame_octet :
    let t := after (.frameOctet .field 0) (withField { portUp with reception := .assembling (List.replicate 1024 0) })
    t.links.field.reception = .skipping ∧ t.links.field.counters.giants = 1 := by decide +kernel

/-- R7: the 1,024th octet still joins. -/
theorem test_giant_frame :
    (after (.giantFrame .field) (withField { portUp with reception := .assembling (List.replicate 1023 0) })).links.field
      = { portUp with reception := .assembling (List.replicate 1023 0) } := by decide +kernel

/-- R7: five octets are a runt. -/
theorem test_frame_end_runt :
    (after (.frameEnd ⟨.head, none⟩) (withHead { portUp with reception := .assembling [0, 0, 0, 0, 0] })).links.head.counters.runts
      = 1 := by decide +kernel

/-- R9, R22: a SYNC frame for epoch 2, scan 0x1234 and 100 ms (check computed apart from the model by R191). -/
theorem test_frame_end_sync :
    let t := after (.frameEnd ⟨.head, none⟩) (withHead { portUp with
      reception := .assembling [0x20, 0, 0, 5, 2, 0x12, 0x34, 0, 100, 0x7b, 0x84] })
    t.sync.state = .locked ∧ t.sync.scan = 0x1234 ∧ t.sync.timer = some 300 ∧ t.links.down.length = 1 := by decide +kernel

/-- R149: an ACK received before the loss of the Head link and taken after it ends the HOLD that the loss began. -/
theorem test_frame_end_ack_after_loss :
    let s : State := { owing with links := { owing.links with head :=
      { portUp with reception := .assembling (buildFrame 0x32 9 [0, 7, 0, 1]) } } }
    let t := after (.frameEnd ⟨.head, some .signal⟩) s
    t.links.head.state = .down ∧ t.links.head.counters.received = 1 ∧ t.session.state = .open_ ∧ t.session.queue = [] ∧
      t.events.queue.map EventRecord.kind = [.linkDown, .reportHold, .reportResumed] := by decide +kernel

/-- R12: Field transmit begins the frame at the head of its buffer. -/
theorem test_field_transmit_begin :
    (after .fieldTransmitBegin { idle with links := { idle.links with down := [⟨[1], none⟩] } }).links.fieldTx = true := by
  decide +kernel

/-- R16: after a forward frame the own class is served. -/
theorem test_head_transmit_choice :
    let t := after .headTransmitChoice { idle with
      links := { idle.links with up := [[1]], lastServed := .forward }
      events := { idle.events with queue := [⟨.linkUp, 1, 0, 5, 0, false⟩] } }
    headSource t = some .event ∧ t.events.queue = [⟨.linkUp, 1, 0, 5, 0, true⟩] := by decide +kernel

/-- R177: a completed EVENT frame takes its carried records with it and clears the events-lost count. -/
theorem test_transmission_complete_event :
    let t := after (.transmissionComplete .head) { idle with
      links := { idle.links with headTx := some ⟨.event, [1]⟩ }
      events := { idle.events with lost := 3, queue := [⟨.linkUp, 1, 0, 5, 0, true⟩, ⟨.linkUp, 0, 0, 6, 0, false⟩] } }
    t.events.queue = [⟨.linkUp, 0, 0, 6, 0, false⟩] ∧ t.events.lost = 0 := by decide +kernel

/-- R142: a completed TALLY starts the retransmit timer. -/
theorem test_transmission_complete_tally :
    let s := opened idle
    let t := after (.transmissionComplete .head) { s with
      links := { s.links with headTx := some ⟨.tally (some 1) false, [1]⟩ }
      session := { s.session with next := 2, queue := [{ sentRecord with state := .unsent }] } }
    t.session.queue = [sentRecord] ∧ t.session.highest = some 1 ∧ t.session.timer = some 500 := by decide +kernel

/-! ### Scan time and metering (chapters 2, 4, 5, 6) -/

/-- R23: LOCKED becomes HOLDOVER for 5 further intervals. -/
theorem test_sync_timer_expiry :
    let t := after .syncTimerExpiry expired
    t.sync.state = .holdover ∧ t.sync.timer = some 500 := by decide +kernel

/-- R23: with time left, as after a SYNC frame, the expiry does not happen. -/
theorem test_sync_timer_still_runs : after .syncTimerExpiry metering = metering := by decide +kernel

/-- R30, R31: a queued frame of another epoch is discarded at its beginning. -/
theorem test_frame_begin :
    let t := after .frameBegin { metering with engine := { metering.engine with queue := [⟨10, 2, 0, 1, 1, [0]⟩] } }
    t.engine.metering = none ∧ t.engine.counters.notMeteredEpoch = 1 := by decide +kernel

/-- R33: a sample without a stream entry. -/
theorem test_unmapped_sample :
    let t := after .unmappedSample (sampling ⟨9, 1, none, true⟩)
    t.engine.counters.unmapped = 1 ∧ t.engine.lastScan = 9 := by decide +kernel

/-- R66: a sample is stored. -/
theorem test_voltage_sample : ((after .voltageSample (sampling ⟨9, 1, some (.voltage 0), true⟩)).ref 0).ring = [⟨9, 1⟩] := by
  decide +kernel

/-- R88, chapter 5 (pairing across nodes): park service misses an older sample and pairs the sample's own. -/
theorem test_voltage_sample_serves_the_park :
    let s := sampling ⟨113, 0, some (.voltage 0), true⟩
    let x := { CircuitState.cleared with park := [⟨112, 1⟩, ⟨113, 1⟩, ⟨114, 1⟩] }
    let t := after .voltageSample { s with circuits := s.circuits.set 0 x }
    (t.circ 0).park = [⟨114, 1⟩] ∧ (t.circ 0).missed = 1 ∧ (t.circ 0).paired = 1 := by decide +kernel

/-- Chapter 6, worked sequence, pair 7 (voltage 0, corrected product 40): the quiet discard. -/
theorem test_current_sample_quiet_discard :
    let s := sampling ⟨7, 0, some (.current 0), true⟩
    let t := after .currentSample { s with
      refs := s.refs.set 0 { RefState.reset with ring := [⟨7, 0⟩], census := .restarted .qualified }
      circuits := s.circuits.set 0 { CircuitState.cleared with
        imp := { DirState.cleared with accumulator := 500080, partialCount := 1 },
        exp := { DirState.cleared with accumulator := 2000 },
        floorAcc := 4000 } }
    (t.circ 0).imp = { DirState.cleared with partialCount := 1, floorDiscarded := 500120 } ∧
      (t.circ 0).floor = .quiet ∧ t.events.queue = [⟨.circuitQuiet, 0, 0, 1000, 502120, false⟩] := by decide +kernel

/-- Chapter 6, worked sequence, pair 9 (1,100,000 as voltage 40 times current 27499, and the offset 40): the
unit is generated and the floor becomes ACTIVE. -/
theorem test_current_sample_unit :
    let s := sampling ⟨9, 27499, some (.current 0), true⟩
    let t := after .currentSample { s with
      refs := s.refs.set 0 { RefState.reset with ring := [⟨9, 40⟩], census := .restarted .qualified }
      circuits := s.circuits.set 0 { CircuitState.cleared with
        imp := { DirState.cleared with accumulator := 40, partialCount := 1 }, floorAcc := 1000, floor := .quiet } }
    (t.circ 0).imp = { DirState.cleared with accumulator := 100040, pending := 1 } ∧ (t.circ 0).floor = .active ∧
      t.events.queue = [⟨.circuitActive, 0, 0, 1000, 0, false⟩] := by decide +kernel

/-- R34: a frame whose samples are all handled is counted. -/
theorem test_frame_metered :
    let t := after .frameMetered { metering with engine := { metering.engine with metering := some ⟨plan, []⟩ } }
    t.engine.metering = none ∧ t.engine.counters.framesMetered = 1 := by decide +kernel

/-! ### Claims -/

/-- R25, R68: the flush empties the rings and restarts the census. -/
theorem test_epoch_flush :
    let s := claiming .epochFlush
    let t := after .epochFlush { s with
      refs := s.refs.set 0 { RefState.reset with ring := [⟨7, 0⟩], census := .restarted .qualified } }
    (t.ref 0).ring = [] ∧ (t.ref 0).census.state = .qualifying := by decide +kernel

/-- R56: the swap; a shadow plan without an enabled circuit leaves the part IDLE. R116: a circuit that the commit newly
enables holds the cleared floor values. -/
theorem test_commit_boundary :
    let s := claiming (.commitBoundary 0x77)
    let t := after .commitBoundary { s with plan := { s.plan with shadow := emptyBank } }
    t.part.state = .idle ∧ t.plan.active.generation = 2 ∧ t.plan.active.check = 0x77 ∧
      t.builder.closings.map Closing.circuit = [0] ∧
      ((after .commitBoundary { s with
        plan := { s.plan with active := emptyBank }
        circuits := s.circuits.set 0 { CircuitState.cleared with floorAcc := 7, floor := .quiet } }).circ 0) =
          .cleared := by decide +kernel

/-- R54: a closing circuit with units in flight refuses the commit. -/
theorem test_commit_boundary_in_flight :
    let s := { owing with
      engine := { owing.engine with claims := [.commitBoundary 0x77] }
      plan := { owing.plan with shadow := emptyBank }
      agent := { owing.agent with queue := [⟨7, 0x17, [0, 0, 0, 0x77], none⟩], held := some .commit } }
    answer (after .commitBoundary s) = some (.circuitInFlight, [0]) := by decide +kernel

/-- R119, R128: pending units move to in-flight in a record. -/
theorem test_builder_take :
    let s := opened (claiming .builderTake)
    let t := after .builderTake { s with
      builder := { s.builder with waiting := some ⟨true, false, false⟩ }
      circuits := s.circuits.set 0 { CircuitState.cleared with imp := { DirState.cleared with pending := 65540 } } }
    (t.circ 0).imp = { DirState.cleared with pending := 5, inFlight := 65535 } ∧ t.builder.cursor = 1 := by decide +kernel

/-- R145: the units named are released. -/
theorem test_ack_release :
    ((after .ackRelease { owing with engine := { owing.engine with
      claims := [.ackRelease [⟨0, .imp, 3, false, false⟩]] } }).circ 0).imp = DirState.cleared := by decide +kernel

/-- R151: the units named return to pending. -/
theorem test_session_restore :
    ((after .sessionRestore { owing with engine := { owing.engine with
      claims := [.sessionRestore [⟨0, .imp, 3, true, false⟩]] } }).circ 0).imp =
        { DirState.cleared with pending := 3, test := true } := by decide +kernel

/-- R79: REFERENCE_READ is answered at the boundary. -/
theorem test_reference_read_claim :
    let s := claiming (.referenceRead 0)
    (answer (after .referenceReadClaim { s with agent := { s.agent with
      queue := [⟨7, 0x31, [0], none⟩], held := some (.referenceRead 0) } })).map (fun a => a.2.take 2) = some [0, 3] := by
  decide +kernel

/-- R103: CIRCUIT_READ is answered at the boundary. -/
theorem test_circuit_read_claim :
    let s := claiming (.circuitRead 0)
    (answer (after .circuitReadClaim { s with agent := { s.agent with
      queue := [⟨7, 0x30, [0], none⟩], held := some (.circuitRead 0) } })).map (fun a => a.2.take 7) =
        some [0, 1, 0, 0, 0, 5, 0] := by decide +kernel

/-- R105, R170: METERING_CLEAR reports the units it discards. -/
theorem test_metering_clear_claim :
    let s := claiming .meteringClear
    let t := after .meteringClearClaim { s with
      agent := { s.agent with queue := [⟨7, 0x50, [], none⟩], held := some .meteringClear }
      circuits := s.circuits.set 3 { CircuitState.cleared with exp := { DirState.cleared with pending := 258 } } }
    answer t = some (.ok, [0, 0, 0, 0, 0, 0, 1, 2]) ∧ t.circ 3 = CircuitState.cleared := by decide +kernel

/-! ### Scrubber and reporting timers -/

/-- R60: a pass begins. -/
theorem test_scrub_wait_expiry : (after .scrubWaitExpiry expired).plan.pass = .running 0 0xFFFFFFFF := by decide +kernel

/-- R63: a pass that computes another check faults the plan. The pass stands at the end of the bank. -/
theorem test_scrub_pass_end :
    let t := after .scrubPassEnd { metering with plan := { metering.plan with pass := .running 2922 0xFFFFFFFE } }
    t.part.state = .faulted ∧ t.plan.pass = .stopped ∧ t.events.queue = [⟨.planFault, 0, 0, 1000, 1, false⟩] := by
  decide +kernel

/-- R61: a disturbance changes what the bank stores. -/
theorem test_storage_disturbance :
    (after (.storageDisturbance emptyContents 5 0) metering).plan.active = ⟨emptyContents, 1, 5⟩ := by decide +kernel

/-- R124, R125: the interval timer restarts and places a builder take. -/
theorem test_interval_timer_expiry :
    let t := after .intervalTimerExpiry expired
    t.builder.timer = some 10000 ∧ t.engine.claims = [.builderTake] := by decide +kernel

/-- R147: a timeout below the retry limit marks SENT records RESEND. -/
theorem test_retransmit_timer_expiry :
    let t := after .retransmitTimerExpiry expired
    t.session.queue.map Record.state = [.resend] ∧ t.session.timeouts = 1 ∧ t.session.timer = none := by decide +kernel

/-! ### Commands (chapter 9) -/

/-- R160: an unknown code. -/
theorem test_unknown_command :
    answer (after .unknownCommand { idle with agent := { idle.agent with queue := [⟨7, 0x99, [], none⟩] } }) =
      some (.unknownCommand, []) := by decide +kernel

/-- R164: part state, cause, tap and self-check result lead the status. -/
theorem test_status_read :
    (answer (after .statusRead (commanded .statusRead [] idle))).map (fun a => a.2.take 8) =
      some [3, 1, 9, 0, 0, 0, 3, 0xE8] := by decide +kernel

/-- R165, R179: 185 octets, and clear yes clears. -/
theorem test_counters_read :
    let s := commanded .countersRead [1] idle
    let t := after .countersRead { s with sync := { s.sync with taken := 5 } }
    (answer t).map (fun a => a.2.length) = some 185 ∧ t.sync.taken = 0 := by decide +kernel

/-- R43. -/
theorem test_plan_clear : (after .planClear (commanded .planClear [] metering)).plan.shadow = emptyBank := by decide +kernel

/-- R44: generation and check of the active bank. -/
theorem test_plan_copy :
    answer (after .planCopy (commanded .planCopy [] metering)) = some (.ok, [0, 0, 0, 1, 0, 0, 0, 0]) := by decide +kernel

/-- R45: of two entries with one key the later is named. -/
theorem test_stream_load :
    answer (after .streamLoad (commanded .streamLoad [2, 10, 0, 2, 0, 10, 0, 2, 0] idle)) = some (.badArgument, [1]) := by
  decide +kernel

/-- R45, R38: the entry takes its place by key. -/
theorem test_stream_load_places :
    (after .streamLoad (commanded .streamLoad [1, 9, 7, 1, 95] metering)).plan.shadow.contents.streams =
      ⟨9, 7, .current 95⟩ :: plan.streams := by decide +kernel

/-- R46: an absent key. -/
theorem test_stream_remove :
    answer (after .streamRemove (commanded .streamRemove [2, 10, 0, 10, 2] metering)) = some (.notFound, [1]) := by
  decide +kernel

/-- R47: quantum 0 is field 7. -/
theorem test_circuit_load :
    answer (after .circuitLoad (commanded .circuitLoad (List.replicate 30 0) idle)) = some (.badArgument, [7]) := by
  decide +kernel

/-- R48: a band in the wrong order is field 5. -/
theorem test_reference_load :
    answer (after .referenceLoad (commanded .referenceLoad [0, 1, 1, 0, 0, 0, 9, 0, 8] idle)) = some (.badArgument, [5]) := by
  decide +kernel

/-- R49, R166: the header of the active bank. -/
theorem test_plan_read :
    answer (after .planRead (commanded .planRead [0, 0, 0, 1] metering)) =
      some (.ok, [0, 0, 0, 1, 0, 0, 0, 0, 0, 2]) := by decide +kernel

/-- R51 check 3a: an enabled circuit without a CURRENT stream. -/
theorem test_plan_commit :
    let s := commanded .planCommit [0, 0, 0, 0] metering
    answer (after .planCommit { s with plan := { s.plan with shadow := ⟨{ plan with streams := [] }, 0, 0⟩ } }) =
      some (.planInvalid, [3, 0]) := by decide +kernel

/-- R139: the highest sent starts one before the first sequence. -/
theorem test_session_open :
    let t := after .sessionOpen (commanded .sessionOpen [0, 7, 0, 0] idle)
    t.session.state = .open_ ∧ t.session.highest = some 0xFFFF ∧ t.builder.timer = some 10000 := by decide +kernel

/-- R150: a close with UNITS entries is held for its restore claim. -/
theorem test_session_close :
    let t := after .sessionClose (commanded .sessionClose [] owing)
    t.session.state = .closed ∧ t.agent.held = some (.sessionClose 1 0) ∧
      t.engine.claims = [.sessionRestore [⟨0, .imp, 3, false, false⟩]] := by decide +kernel

/-- R168: a timeout under 50 ms is argument 3. -/
theorem test_report_config :
    answer (after .reportConfig (commanded .reportConfig [0, 10, 0, 9, 6, 0, 49] idle)) = some (.badArgument, [3]) := by
  decide +kernel

/-- R131: refused in CLOSED with the two states. -/
theorem test_report_flush :
    answer (after .reportFlush (commanded .reportFlush [] idle)) = some (.wrongState, [3, 0]) := by decide +kernel

/-- R169: the read claim is placed. -/
theorem test_circuit_read :
    (after .circuitRead (commanded .circuitRead [95] idle)).engine.claims = [.circuitRead 95] := by decide +kernel

/-- R169: reference 16 does not exist. -/
theorem test_reference_read :
    answer (after .referenceRead (commanded .referenceRead [16] idle)) = some (.badArgument, [0]) := by decide +kernel

/-- R170: STARTED and PLAN_FAULT stay set. -/
theorem test_event_config :
    answer (after .eventConfig (commanded .eventConfig [0, 0, 0, 0] idle)) = some (.ok, [0, 0, 0, 0x81]) := by decide +kernel

/-- R104: refused while the session is OPEN. -/
theorem test_metering_clear :
    answer (after .meteringClear (commanded .meteringClear [] (opened idle))) = some (.wrongState, [3, 1]) := by
  decide +kernel

/-- R171: the reset is pending with 10 ms. -/
theorem test_part_reset :
    let t := after .partReset (commanded .partReset [] idle)
    t.agent.resetPending = some ⟨10, none⟩ ∧ answer t = some (.ok, []) := by decide +kernel

/-- R160: DEFECT refuses PART_RESET. -/
theorem test_part_reset_in_defect :
    answer (after .partReset (commanded .partReset [] (partIn .defect))) = some (.wrongState, [2, 0]) := by decide +kernel

/-- R171, R184: the deadline starts a reset with cause COMMAND. -/
theorem test_part_reset_deadline :
    let t := after .partResetDeadline { idle with agent := { idle.agent with resetPending := some ⟨0, none⟩ } }
    t.part.state = .bypass ∧ t.part.cause = .command ∧ t.part.bypassTimer = some 1 := by decide +kernel

/-! ### Start-up (chapter 11) -/

/-- R182: a supply failure in any state. -/
theorem test_supply_fail : (after .supplyFail metering).part = PartController.reset .power := by decide +kernel

/-- R182, R185: the straps are read on entering STARTING. -/
theorem test_supply_good :
    let t := after (.supplyGood 9) State.reset
    t.part.state = .starting ∧ t.part.tap = 9 := by decide +kernel

/-- R183: the supply does not end a BREAK bypass, the release does. -/
theorem test_bypass_break_release :
    let s := State.afterReset .break_ .signal .break_ []
    after (.supplyGood 9) s = s ∧ (after (.bypassBreakRelease true 9) s).part.state = .starting := by decide +kernel

/-- A COMMAND bypass one millisecond after its start. -/
def bypassed : State := millisecond (State.afterReset .command .signal .signal [])

/-- R184: the bypass ends when its millisecond has passed, and not before. -/
theorem test_command_bypass_end :
    (after (.commandBypassEnd 9) bypassed).part.state = .starting ∧
      (after (.commandBypassEnd 9) (State.afterReset .command .signal .signal [])).part.state = .bypass := by decide +kernel

/-- R186, R187: a failed self-check leads to DEFECT, and STARTED says so. -/
theorem test_self_check_end :
    let t := after (.selfCheckEnd false) (after (.supplyGood 9) State.reset)
    t.part.state = .defect ∧ t.events.queue = [⟨.started, 0, 0, 0, 0x101, false⟩] := by decide +kernel

/-- R186: strap address 31 leads to PASSIVE, without STARTED. -/
theorem test_self_check_end_passive :
    let t := after (.selfCheckEnd true) (after (.supplyGood 31) State.reset)
    t.part.state = .passive ∧ t.events.queue = [] := by decide +kernel

/-! ### Witnesses: for each statement with hypotheses, states and operands that meet them, clause by clause -/

/-- A command addressed to the tap of a part that can begin it is admitted. -/
theorem admitted_of (k : CommandCode) (args : List Byte) (s : State) (begins : beginning (commanded k args s) =
      some ⟨7, commandOctet k, args, none⟩) (length : lengthOk k args = true)
    (state : (commanded k args s).part.state ≠ .defect ∨ k = .statusRead) (ranges : agentRangeFailure k args = none) :
    Admitted k ⟨7, commandOctet k, args, none⟩ (commanded k args s) :=
  ⟨begins, rfl, rfl, length, state, ranges⟩

/-- A part with one queued broadcast. -/
def broadcast (k : CommandCode) (fate : CopyFate) (s : State) : State :=
  { s with agent := { s.agent with queue := [⟨7, commandOctet k, [], some (0, fate)⟩] } }

theorem witness_StepRunsTheFrontCommand :
    ({ idle with pending := [.supplyFail, .linkUp .head] } : State).pending = .supplyFail :: [.linkUp .head] := rfl

theorem witness_CommandsAnswerAndAMillisecondPasses :
    (State.reset.pending = [] ∧ State.reset.part.state = .bypass) ∧
    (idle.pending = [] ∧ idle.part.state ≠ .bypass ∧ idle.plan.pass = .stopped ∧ idle.agent.resetPending = none) ∧
    (metering.pending = [] ∧ metering.part.state ≠ .bypass ∧ metering.plan.pass = .waiting 100) ∧
    ({ idle.agent with resetPending := some ⟨10, none⟩ } : Agent).resetPending = some ⟨10, none⟩ := by decide +kernel

/-- The idle part with its Head port in BREAK for 40 ms. -/
def broken : State :=
  { idle with links := { idle.links with head := { Port.reset .break_ with state := .break_ }, breakTimer := some 40 } }

theorem witness_ResetsLeaveTheFullResetValues :
    (broken.links.head.state = .break_ ∧ broken.links.breakTimer = some 40 ∧
      ({ broken.links with breakTimer := some 39 } : Links).breakTimer = some 39 ∧ idle.links.breakTimer = none) ∧
    (({ idle with agent := { idle.agent with resetPending := some ⟨0, none⟩ } } : State).agent.resetPending =
      some ⟨0, none⟩ ∧
      ({ idle with agent := { idle.agent with resetPending := some ⟨1, some 2⟩ } } : State).agent.resetPending =
      some ⟨1, some 2⟩) := by
  decide +kernel

theorem witness_BypassEndsAndThePartStarts :
    (State.reset.part.state = .bypass ∧ State.reset.part.cause = .power) ∧
    ((State.afterReset .break_ .signal .break_ []).part.state = .bypass ∧
      (State.afterReset .break_ .signal .break_ []).part.cause = .break_) ∧
    (bypassed.part.state = .bypass ∧ bypassed.part.cause = .command ∧ bypassed.part.bypassTimer = some 0 ∧
      (State.afterReset .command .signal .signal []).part.bypassTimer ≠ some 0) ∧
    (idle.part.state ≠ .bypass ∧ (State.afterReset .command .signal .signal []).part.cause ≠ .power ∧
      State.reset.part.cause ≠ .break_ ∧ State.reset.part.cause ≠ .command) ∧
    (∀ tap ∈ ([0, 1, 30, 31] : List (BitVec 5)), (after (.supplyGood tap) State.reset).part.state = .starting ∧
      (after (.supplyGood tap) State.reset).part.tap = tap ∧
      (after (.supplyGood tap) State.reset).events = ⟨[], 0, 0x0007FFFF, 0⟩) := by decide +kernel

theorem witness_PortsLeaveUp :
    let f := buildFrame 0x32 9 [0, 7, 0, 1]
    let s : State := { owing with links := { owing.links with head := { portUp with reception := .assembling f } } }
    ((∃ t, exec (.frameEnd ⟨.head, none⟩) s = .next t) ∧ (∃ t, exec (.signalLoss .head) s = .next t) ∧
      ∃ t, exec (.breakOnset .head) s = .next t) ∧
    ((s.port .head).state = .up ∧ (s.port .head).reception = .assembling f ∧ 6 ≤ f.length ∧ goodFrame f = true ∧ frameKind f = 0x32 ∧
      (frameAddress f).toNat = s.part.tap.toNat ∧ takesIn s.part.state = true) ∧
    ((idle.port .field).state = .up ∧ (idle.port .head).reception = .idle) ∧
    idle.links.field.state = .up ∧ idle.links.head.state = .up ∧ idle.session.state ≠ .open_ ∧
      (opened idle).links.head.state = .up ∧ (opened idle).session.state = .open_ :=
  ⟨⟨⟨_, rfl⟩, ⟨_, rfl⟩, ⟨_, rfl⟩⟩, by decide +kernel, by decide +kernel, by decide +kernel⟩

theorem witness_PortsQualifyBreakAndEnterUp :
    let down := withField (.reset .noSignal)
    let ready := withHead { Port.reset .signal with qualified := some 1 }
    let held (cause : ResetCause) := State.afterReset cause .break_ .break_ []
    ((down.port .field).state = .down ∧ (down.port .field).line = .noSignal) ∧
    (ready.part.state ≠ .bypass ∧ ready.part.state ≠ .starting ∧ (ready.port .head).state = .down ∧
      (ready.port .head).qualified = some 1 ∧ (1 : Nat) ≤ 1 ∧ ready.session.state ≠ .hold ∧
      ({ ready with session := { ready.session with state := .hold } } : State).session.state = .hold) ∧
    (broken.port .head).state = .break_ ∧
    ((ready.port .head).line = .signal ∧ (down.port .field).line ≠ .signal ∧ (down.port .field).qualified = none) ∧
    (((held .command).port .field).state = .down ∧ ((held .command).port .field).line = .break_ ∧
        (held .command).part.state = .bypass ∧ ((held .break_).port .head).state ≠ .break_ ∧
        (held .break_).part.cause = .break_) := by decide +kernel

theorem witness_ReceptionsAreAssembledAndChecked :
    let receiving (l : List Byte) : State := withField { portUp with reception := .assembling l }
    (∀ n ∈ [0, 1023, 1024], ((receiving (List.replicate n 0)).port .field).state = .up ∧
      ((receiving (List.replicate n 0)).port .field).reception = .assembling (List.replicate n 0)) ∧
    ((withField { portUp with reception := .skipping }).port .field).reception = .skipping ∧
    (idle.port .field).reception = .idle ∧ ((withField (.reset .signal)).port .field).state ≠ .up ∧
    (List.replicate 1023 (0 : Byte)).length < 1024 ∧ (List.replicate 1024 (0 : Byte)).length = 1024 ∧
    goodFrame [0, 0, 0, 0, 0, 0] = false ∧ goodFrame (buildFrame 0x20 0 []) = true ∧
      (buildFrame 0x20 0 []).length = 6 ∧ (buildFrame 0x20 0 (List.replicate 1018 0)).length = 1024 := by decide +kernel

theorem witness_GoodFramesAndBuiltFrames :
    6 ≤ ([0, 0, 0, 0, 0, 0] : Frame).length ∧ plan.circuits.length = 96 ∧ plan.references.length = 16 ∧
    (List.replicate 1018 (0 : Byte)).length ≤ 65535 := by decide +kernel

theorem witness_GoodFramesGoWhereTheirPortSendsThem :
    (∀ p ∈ [PartState.passive, .defect, .idle, .metering, .faulted], (partIn p).part.state = p) ∧
    frameKind (buildFrame 0x10 10 []) = 0x10 ∧ frameKind (buildFrame 0x20 0 []) = 0x20 ∧
    (∀ k ∈ [0x30, 0x32], ∀ a ∈ ([1, 9, 30, 31] : List Byte), frameKind (buildFrame k a [1, 1]) = k ∧
      (frameAddress (buildFrame k a [1, 1]) = a)) ∧ idle.part.tap.toNat = 9 ∧
    frameKind (buildFrame 0x99 9 []) ≠ 0x20 ∧ frameKind (buildFrame 0x99 9 []) ≠ 0x30 ∧
      frameKind (buildFrame 0x99 9 []) ≠ 0x32 := by decide +kernel

/-- A response waiting to be sent. -/
def waitingResponse : QueuedResponse := ⟨⟨7, 0x01, .ok, []⟩, true, false⟩

theorem witness_HeadTransmitServesTheClasses :
    (idle.links.headTx = none ∧ idle.links.head.state = .up ∧ idle.agent.responses = [] ∧ idle.links.up = [] ∧
      idle.session.eligible = none ∧ idle.events.queue = [] ∧ idle.links.lastServed = .own) ∧
    ({ idle.agent with responses := [waitingResponse] } : Agent).responses = waitingResponse :: [] ∧
    ({ idle.links with up := [[1]], lastServed := .forward } : Links).lastServed = .forward ∧
    (withHead (.reset .signal)).links.head.state ≠ .up ∧
    ({ idle.links with headTx := some ⟨.forward, [1]⟩ } : Links).headTx ≠ none ∧
    ({ (opened idle).session with next := 2, queue := [{ sentRecord with state := .resend }] } : Session).eligible =
      some { sentRecord with state := .resend } := by decide +kernel

theorem witness_FieldTransmitServesItsBuffer :
    let sending (copyOf : Option Nat) : State :=
      { idle with links := { idle.links with down := [⟨[1], copyOf⟩], fieldTx := true } }
    (idle.links.field.state = .up ∧ idle.links.fieldTx = false ∧ idle.links.down = [] ∧
      (withField (.reset .signal)).links.field.state ≠ .up) ∧
    ((sending none).links.down = ⟨[1], none⟩ :: [] ∧ (sending none).links.fieldTx = true) ∧
    ((sending (some 3)).links.down = ⟨[1], some 3⟩ :: [] ∧ (sending (some 3)).agent.resetPending = none) ∧
    ({ idle.agent with resetPending := some ⟨4, some 3⟩ } : Agent).resetPending = some ⟨4, some 3⟩ := by decide +kernel

theorem witness_HeadTransmitCompletes :
    let sending (x : HeadSource) : State := { idle with links := { idle.links with headTx := some ⟨x, [1]⟩ } }
    (∀ x ∈ [HeadSource.response, .forward, .event, .tally none true, .tally (some 1) false],
      (sending x).links.headTx = some ⟨x, [1]⟩) ∧
    (waitingResponse.resets = false ∧ ({ waitingResponse with resets := true } : QueuedResponse).resets = true ∧
      (List.replicate 3 waitingResponse).length < 4 ∧
      ({ idle.agent with waiting := some waitingResponse } : Agent).waiting = some waitingResponse ∧
      idle.agent.waiting = none) := by decide +kernel

theorem witness_ScanOrderIsModular :
    beyond 32768 0 = 32768 ∧ newer 1 0 = true ∧ newer 32767 0 = true ∧ older 32769 0 = true ∧ older 65535 0 = true := by
  decide +kernel

theorem witness_SyncFramesAndTheSyncTimer :
    let body (hi lo : Byte) : List Byte := [1, 0, 0, hi, lo]
    ((body 0 100).length = 5 ∧ 100 ≤ (0 : Byte).toNat * 256 + (100 : Byte).toNat ∧
      (0x13 : Byte).toNat * 256 + (0x88 : Byte).toNat = 5000 ∧ (0 : Byte).toNat * 256 + (99 : Byte).toNat < 100 ∧
      5000 < (0x13 : Byte).toNat * 256 + (0x89 : Byte).toNat ∧ ([1, 0, 0, 0] : List Byte).length ≠ 5) ∧
    (idle.sync.state = .none ∧ metering.sync.state = .locked ∧ metering.sync.epoch = 1 ∧
      expired.sync.state = .locked ∧ expired.sync.timer = some 0 ∧ metering.sync.timer ≠ some 0 ∧
      expired.sync.interval = some 100) ∧
    (({ metering.sync with state := .holdover } : Sync).state = .holdover ∧
      ({ metering.sync with state := .lost, timer := none } : Sync).state = .lost) := by decide +kernel

theorem witness_SampleFramesAreAcceptedInOrder :
    let body : List Byte := [1, 0, 0, 1, 1, 0, 5]
    (idle.part.state ≠ .metering ∧ metering.part.state = .metering) ∧
    (malformedSample 255 body = true ∧ malformedSample 254 body = false ∧ malformedSample 10 [1, 0, 0, 9, 1] = true) ∧
    ((partIn .metering).sync.state = .none ∧ metering.sync.state = .locked) ∧
    (body.getD 0 0 = metering.sync.epoch ∧ body.getD 0 0 ≠ idle.sync.epoch) ∧
    metering.engine.queue.length < 8 ∧
    8 ≤ (List.replicate 8 (⟨10, 1, 0, 1, 1, [0]⟩ : SampleFrame)).length := by decide +kernel

theorem witness_FrameSamplesComeInTwoPasses :
    1 ≤ (⟨10, 1, 0, 1, 1, [0]⟩ : SampleFrame).channels ∧
    (7 < 8 ∧ plan.streams = [⟨10, 0, .voltage 0⟩] ++ ⟨10, 1, .current 0⟩ :: []) ∧
    targetFor plan 10 0 = some (.voltage 0) ∧ targetFor plan 10 1 = some (.current 0) ∧ targetFor plan 10 7 = none ∧
    targetFor plan 255 0 = none := by decide +kernel

theorem witness_FramesBeginSkipSamplesAndEnd :
    let queued (epoch : Byte) : State :=
      { metering with engine := { metering.engine with queue := [⟨10, epoch, 0, 1, 1, [0]⟩] } }
    let disabled : PlanContents := emptyContents
    ((queued 1).engine.metering = none ∧ (queued 1).engine.claims = [] ∧
      (queued 1).engine.queue = ⟨10, 1, 0, 1, 1, [0]⟩ :: [] ∧ metering.sync.epoch = 1 ∧ (2 : Byte) ≠ metering.sync.epoch) ∧
    ({ metering.engine with metering := some ⟨plan, []⟩ } : Engine).metering = some ⟨plan, []⟩ ∧
    ((sampling ⟨9, 1, none, true⟩).engine.metering = some ⟨plan, ⟨9, 1, none, true⟩ :: []⟩ ∧
      (sampling ⟨9, 1, some .ignore, true⟩).engine.metering = some ⟨plan, ⟨9, 1, some .ignore, true⟩ :: []⟩ ∧
      (refRecord disabled 15).enabled = false ∧ (circuitRecord disabled 95).enabled = false) ∧
    ((claiming .epochFlush).engine.claims ≠ [] ∧ (sampling ⟨9, 1, none, true⟩).engine.metering ≠ none ∧
      (claiming .epochFlush).engine.claims.head? ≠ some .builderTake ∧ metering.engine.claims.head? = none ∧
      nextSample metering = none ∧ nextSample (sampling ⟨9, 1, none, true⟩) = some (plan, ⟨9, 1, none, true⟩)) := by
  decide +kernel

theorem witness_SampleFramesAreAccounted :
    exec (.frameEnd ⟨.field, none⟩) idle = .next idle ∧ idle.part.state ≠ .bypass ∧ Instr.frameEnd ⟨.field, none⟩ ≠ .countersRead :=
  ⟨rfl, by decide, by decide⟩

/-- A ring of n samples with scans from 1 on. -/
def ringOf (n : Nat) : List RingSample := (List.range n).map fun i => ⟨BitVec.ofNat 16 (i + 1), 5⟩

theorem witness_VoltageSamplesAreStoredInOrderOrCounted :
    let d : DueSample := ⟨9, 1, some (.voltage 0), true⟩
    ((sampling d).engine.metering = some ⟨plan, d :: []⟩ ∧ d.target = some (.voltage 0) ∧
      (refRecord plan 0).enabled = true) ∧
    ((∃ y ∈ ringOf 9, y.scan = d.scan) ∧ (∀ y ∈ ringOf 8, y.scan ≠ d.scan)) ∧
    (32 ≤ (ringOf 32).length ∧ (ringOf 31).length < 32 ∧ (∀ y ∈ ringOf 32, y.scan ≠ 0) ∧
      (ringOf 32).head? = some ⟨1, 5⟩ ∧ older 0 1 = true ∧ older 33 1 = false ∧
      (ringOf 32).getLast? = some ⟨32, 5⟩ ∧ newer 33 32 = true ∧ (ringOf 32) = ⟨1, 5⟩ :: (ringOf 32).tail) ∧
    ((ringOf 32).map RingSample.scan).Nodup := by decide +kernel

theorem witness_VoltageRingInOrder : ScansOrdered ((ringOf 3).map RingSample.scan) :=
  ⟨by decide, by decide, by decide, trivial⟩

/-- Census inputs: reference 0 with its zero offset 0 and bands 10 to 100. -/
theorem witness_CensusFollowsTheNewestSample :
    metering.refs.length = 16 ∧
    (64 < beyond 66 1 ∧ beyond 65 1 ≤ 64) ∧
    ((5 : Half).toInt - (refRecord plan 0).zeroOffset.toInt ≥ 0 ∧ (-5 : Half).toInt - (refRecord plan 0).zeroOffset.toInt < 0) ∧
    (newer 402 1 = true ∧ 4 * (refRecord plan 0).bandMax.toNat < beyond 402 1 ∧
      ¬ 4 * (refRecord plan 0).bandMax.toNat < beyond 401 1) ∧
    (15 + 1 = 16 ∧ 14 + 1 ≠ 16 ∧ 16 * (refRecord plan 0).bandMin.toNat ≤ 160 ∧ 1600 ≤ 16 * (refRecord plan 0).bandMax.toNat ∧
      ¬ 1601 ≤ 16 * (refRecord plan 0).bandMax.toNat) ∧
    (Census.restarted .idle).state = .idle ∧ (metering.ref 0).census.state = .qualified ∧
      (metering.ref 0).census.baseValid = false := by decide +kernel

theorem witness_CurrentSamplesArePairedParkedOrMissed :
    let d : DueSample := ⟨9, 1, some (.current 0), true⟩
    ((sampling d).engine.metering = some ⟨plan, d :: []⟩ ∧ d.target = some (.current 0) ∧
      (circuitRecord plan 0).enabled = true ∧ (sampling d).circuits.length = 96) ∧
    ((∀ z ∈ ringOf 9, z.scan = d.scan → z = ⟨9, 5⟩) ∧ (⟨9, 5⟩ : RingSample) ∈ ringOf 9) ∧
    ((∀ y ∈ ringOf 8, y.scan ≠ d.scan) ∧ (ringOf 8).getLast? = some ⟨8, 5⟩ ∧ newer 9 8 = true ∧ newer 9 10 = false ∧
      (ringOf 10).tail.getLast? = some ⟨10, 5⟩) ∧
    ((∃ q ∈ ([⟨9, 5⟩] : List Parked), q.scan = d.scan) ∧ (∀ q ∈ ([⟨8, 5⟩] : List Parked), q.scan ≠ d.scan)) ∧
    ((List.replicate 7 (⟨8, 5⟩ : Parked)).length < 8 ∧ 8 ≤ (List.replicate 8 (⟨8, 5⟩ : Parked)).length) ∧
    ((circuitRecord plan 0).reference = 0 ∧ (circuitRecord plan 1).enabled = false ∧
      (metering.ref 0).census.state = .qualified ∧ (idle.ref 0).census.state = .idle) := by decide +kernel

theorem witness_CurrentSamplesAreAccounted :
    idle.circuits.length = 96 ∧ exec (.frameEnd ⟨.field, none⟩) idle = .next idle ∧ idle.part.state ≠ .bypass ∧
      Instr.frameEnd ⟨.field, none⟩ ≠ .currentSample ∧
      NextSample plan ⟨9, 1, some (.current 0), true⟩ (sampling ⟨9, 1, some (.current 0), true⟩) :=
  ⟨by decide +kernel, rfl, by decide, by decide, rfl⟩

theorem witness_PairsPassTheGateAddEnergyAndOverflow :
    let r : CircuitRecord := { record with floorEnable := false }
    let free : CircuitRecord := { record with acceleration := 0 }
    ((metering.ref (circuitRecord plan 0).reference).census.state = .qualified ∧
      (idle.ref 0).census.state ≠ .qualified ∧ (idle.ref 0).census.state ≠ .unchecked) ∧
    (metering.circuits.length = 96 ∧ 0 < correctedProduct r 1 1 ∧ correctedProduct r (-41) 1 < 0 ∧
      correctedProduct r (-40) 1 = 0 ∧ 0 < correctedProduct record 32767 32767 ∧ 0 < correctedProduct free 1 1) := by
  decide +kernel

theorem witness_CorrectedProductIsExact : clearedCircuitRecord.gain = 0 := rfl

theorem witness_FloorRestartsStepsAndDiscards :
    idle.circuits.length = 96 ∧ record.floorEnable = true ∧ clearedCircuitRecord.floorEnable = false ∧
      CircuitState.cleared.floor = .active ∧ 3999 + record.floorStep.toNat < record.floorLimit.toNat ∧
      record.floorLimit.toNat ≤ 4000 + record.floorStep.toNat := by decide +kernel

theorem witness_StreamCommandsApplyAllOrNothing :
    let e : StreamEntry := ⟨254, 7, .ignore⟩
    (∃ c, Admitted .streamLoad c (commanded .streamLoad ([2] ++ [e, e].flatMap streamOctets) metering)) ∧
    (∃ c, Admitted .streamLoad c (commanded .streamLoad ([8] ++ (List.replicate 8 e).flatMap streamOctets) metering)) ∧
    (∃ c, Admitted .streamRemove c (commanded .streamRemove [1, 10, 1] metering)) ∧
    (∃ c, Admitted .streamLoad c (commanded .streamLoad [2, 254, 7, 1, 95, 10, 0, 0, 16] metering)) ∧
    (∃ c, Admitted .streamRemove c (commanded .streamRemove [2, 254, 7, 255, 0] metering)) ∧
    ([entryKey e].Nodup ∧ entryKey e ∈ [e].map entryKey ∧ keysAscend plan.streams = true ∧
      (∃ x ∈ plan.streams, x.node = 10 ∧ x.channel = 1) ∧ ¬ ∃ x ∈ plan.streams, x.node = 254 ∧ x.channel = 7) ∧
    (256 < ((List.range 256).map fun i => (⟨Fin.ofNat 255 (i / 8), Fin.ofNat 8 i, .ignore⟩ : StreamEntry)).length +
      [e].length) := by
  refine ⟨⟨_, admitted_of .streamLoad _ metering rfl rfl (.inl (by decide)) rfl⟩,
    ⟨_, admitted_of .streamLoad _ metering rfl rfl (.inl (by decide)) rfl⟩,
    ⟨_, admitted_of .streamRemove _ metering rfl rfl (.inl (by decide)) rfl⟩,
    ⟨_, admitted_of .streamLoad _ metering rfl rfl (.inl (by decide)) rfl⟩,
    ⟨_, admitted_of .streamRemove _ metering rfl rfl (.inl (by decide)) rfl⟩, by decide +kernel, by decide +kernel⟩

theorem witness_ValidationChecksTheCrossReferences :
    let shared : PlanContents := { plan with streams := [⟨10, 0, .voltage 0⟩, ⟨10, 1, .current 0⟩, ⟨10, 2, .voltage 0⟩] }
    let doubled : PlanContents := { plan with streams := [⟨10, 0, .voltage 0⟩, ⟨10, 1, .current 0⟩, ⟨10, 2, .current 0⟩] }
    let feeds (p : PlanContents) (t : Target) : Nat := (p.streams.filter fun e => e.target == t).length
    (2 ≤ feeds shared (.voltage 0) ∧ 2 ≤ feeds doubled (.current 0) ∧ (∀ r, feeds doubled (.voltage r) ≤ 1)) ∧
    ((∀ r, feeds plan (.voltage r) ≤ 1) ∧ (∀ c, feeds plan (.current c) ≤ 1) ∧ (circuitRecord plan 0).enabled = true ∧
      (∀ b : Fin 96, ¬ b < 0) ∧ feeds emptyContents (.current 0) = 0 ∧ feeds plan (.current 0) ≠ 0 ∧
      (refRecord emptyContents 0).enabled = false ∧ (refRecord plan 0).enabled = true ∧
      feeds plan (.voltage 0) ≠ 0 ∧ clearedCircuitRecord.account = 0) := by decide +kernel

theorem witness_ShadowBankIsClearedAndCopied :
    (∃ c, Admitted .planClear c (commanded .planClear [] metering)) ∧
    (∃ c, Admitted .planCopy c (commanded .planCopy [] metering)) :=
  ⟨⟨_, admitted_of .planClear _ metering rfl rfl (.inl (by decide)) rfl⟩,
    ⟨_, admitted_of .planCopy _ metering rfl rfl (.inl (by decide)) rfl⟩⟩

theorem witness_RecordsAreLoadedWhole :
    let r : RefRecord := { clearedRefRecord with bandMin := 8, bandMax := 4095 }
    (∃ c, Admitted .circuitLoad c (commanded .circuitLoad (95 :: circuitOctets record) metering)) ∧
    (∃ c, Admitted .circuitLoad c (commanded .circuitLoad (96 :: circuitOctets record) metering)) ∧
    (∃ c, Admitted .referenceLoad c (commanded .referenceLoad (15 :: refOctets r) metering)) ∧
    (1 ≤ record.quantum.toNat ∧ record.quantum.toNat ≤ 1099511627776 ∧ 1 ≤ record.divisor.toNat ∧
      record.divisor.toNat ≤ 16 ∧ record.acceleration.toNat ∈ [1, 4, 8, 16] ∧ 1 ≤ record.floorStep.toNat ∧
      1 ≤ record.floorLimit.toNat ∧ record.floorLimit.toNat ≤ 1099511627776) ∧
    (circuitLoadFailure (96 :: circuitOctets record) = some 0 ∧ circuitLoadFailure (List.replicate 30 0) = some 7 ∧
      referenceLoadFailure [0, 1, 1, 0, 0, 0, 9, 0, 8] = some 5) := by
  refine ⟨⟨_, admitted_of .circuitLoad _ metering rfl rfl (.inl (by decide)) rfl⟩,
    ⟨_, admitted_of .circuitLoad _ metering rfl rfl (.inl (by decide)) rfl⟩,
    ⟨_, admitted_of .referenceLoad _ metering rfl rfl (.inl (by decide)) rfl⟩, by decide +kernel, by decide +kernel⟩

theorem witness_PlanReadReadsTheNamedBank :
    ∀ args ∈ ([[0, 0, 0, 1], [1, 0, 1, 1], [0, 0, 0, 2], [0, 1, 255, 32], [1, 1, 0, 33], [0, 1, 0, 0], [0, 2, 88, 8],
        [1, 2, 96, 1], [0, 2, 95, 2], [0, 3, 0, 16], [1, 3, 16, 1], [0, 3, 15, 2]] : List (List Byte)),
      ∃ c, Admitted .planRead c (commanded .planRead args metering) := by
  intro args h
  refine ⟨_, admitted_of .planRead args metering rfl ?_ (.inl fun h => by cases h) ?_⟩ <;>
    (simp only [List.mem_cons, List.not_mem_nil, or_false] at h; rcases h with h | h | h | h | h | h | h | h | h | h | h | h <;>
      subst h <;> rfl)

theorem witness_PlanCommitChecksInPhases :
    let s : State := { metering with plan := { metering.plan with shadow := emptyBank } }
    (∃ c, Admitted .planCommit c (commanded .planCommit [0xC6, 0x0E, 0x42, 0x3F] s)) ∧
    (planInvalid { plan with streams := [] } = some (.noCurrentStream, 0) ∧ planInvalid s.plan.shadow.contents = none ∧
      s.plan.shadow.check.toNat = fieldAt [0xC6, 0x0E, 0x42, 0x3F] 0 4 ∧ fieldAt [0, 0, 0, 0] 0 4 ≠ 0xC60E423F) :=
  ⟨⟨_, admitted_of .planCommit _ _ rfl rfl (.inl (by decide)) rfl⟩, by decide +kernel⟩

theorem witness_CommitBoundaryRefuses :
    let closing : Closing := ⟨0, 5, 0, 0, 0, 0, 0, 0, 0, 1, false, false, none⟩
    ((claiming (.commitBoundary 5)).engine.metering = none ∧
      (claiming (.commitBoundary 5)).engine.claims = .commitBoundary 5 :: []) ∧
    ((0 : Fin 96) ∈ closingSet plan emptyContents ∧ 0 < (owing.circ 0).imp.inFlight ∧
      (∀ b ∈ closingSet plan emptyContents, ¬ b < 0) ∧
      ∀ b ∈ closingSet plan emptyContents, ¬ (0 < (metering.circ b).imp.inFlight ∨ 0 < (metering.circ b).exp.inFlight)) ∧
    ((∃ k ∈ [closing], k.circuit = 0) ∧ ¬ (∃ k ∈ List.replicate 8 { closing with circuit := 1 }, k.circuit = 0) ∧
      8 - (List.replicate 8 { closing with circuit := 1 }).length < (closingSet plan emptyContents).length) := by decide +kernel

theorem witness_CommitClosesSwapsAndAdjusts :
    let s : State := { claiming (.commitBoundary 5) with plan := { metering.plan with shadow := emptyBank } }
    (s.engine.metering = none ∧ s.engine.claims = .commitBoundary 5 :: [] ∧ s.circuits.length = 96 ∧ s.refs.length = 16) ∧
    (∀ c ∈ closingSet plan emptyContents, (s.circ c).imp.inFlight = 0 ∧ (s.circ c).exp.inFlight = 0) ∧
    s.builder.closings = [] ∧ (closingSet plan emptyContents).length ≤ 8 - 0 ∧
    ((1 : Fin 96) ∉ closingSet plan emptyContents ∧ (0 : Fin 96) ∉ closingSet plan plan ∧
      (circuitRecord plan 0).enabled = true ∧ (refRecord plan 0).enabled = true ∧ (refRecord emptyContents 0).enabled = false ∧
      voltageKey plan 0 = some 80 ∧ voltageKey emptyContents 0 = none) ∧
    (keysAscend plan.streams = true ∧ currentKey plan 0 = some 81 ∧ (∀ e ∈ plan.streams, e.target ≠ .voltage 1) ∧
      ∀ x ∈ plan.streams, x.target = .voltage 0 → x.node = 10 ∧ x.channel = 0) := by decide +kernel

theorem witness_ScrubberPassesAndDisturbances :
    (metering.plan.pass = .waiting 100 ∧ expired.plan.pass = .waiting 0 ∧ idle.plan.pass = .stopped) ∧ contentsWf plan = true ∧
    ({ metering.plan with pass := .running 0 0xFFFFFFFF } : PlanStore).pass =
      .running 0 (crc32Run 0xFFFFFFFF ((serialize plan).take 0)) ∧
    (0 ≤ (serialize plan).length ∧ (serialize plan).length = 2922) := by decide +kernel

theorem witness_EpochFlushEmptiesRingsAndParks :
    (claiming .epochFlush).engine.metering = none ∧ (claiming .epochFlush).engine.claims = .epochFlush :: [] ∧
      (sampling ⟨9, 1, none, true⟩).engine.metering ≠ none := by decide +kernel

theorem witness_TriggersJoinPlaceOrDrop :
    (idle.session.state = .closed ∧ 16 ≤ (List.replicate 16 sentRecord).length) ∧
    ((opened idle).session.state ≠ .closed ∧ (List.replicate 15 sentRecord).length < 16 ∧
      (opened idle).builder.waiting = none ∧
      ({ idle.builder with waiting := some ⟨true, false, false⟩ } : Builder).waiting = some ⟨true, false, false⟩) ∧
    ((opened idle).builder.timer ≠ some 0 ∧ expired.builder.timer = some 0) ∧
    (idle.circuits.length = 96 ∧ idle.builder.urgent ≤ 4095 + 1 ∧ 4094 + 1 < idle.builder.urgent) := by decide +kernel

theorem witness_BuilderTakesComposeRecords :
    let s : State := { opened (claiming .builderTake) with
      builder := { (opened metering).builder with waiting := some ⟨false, true, false⟩, idle := 3 } }
    (s.engine.metering = none ∧ s.engine.claims = .builderTake :: [] ∧ s.builder.waiting = some ⟨false, true, false⟩ ∧
      s.session.state ≠ .closed ∧ s.session.queue.length < 16 ∧ s.circuits.length = 96 ∧ s.builder.closings.length ≤ 8) ∧
    (0 < (({ owing with circuits := owing.circuits.set 95 { CircuitState.cleared with
      exp := { DirState.cleared with pending := 65536 } } } : State).circ 95).exp.pending) ∧
    ((∀ k ∈ s.builder.closings, k.bound ≠ none) ∧ (∀ c, (s.circ c).imp.pending = 0 ∧ (s.circ c).exp.pending = 0) ∧
      s.builder.idle + 1 = 4 ∧ (opened metering).builder.idle + 1 ≠ 4) ∧
    idle.session.state = .closed := by decide +kernel

theorem witness_ClaimsReleaseAndRestoreUnits :
    let us : List UnitsRef := [⟨0, .imp, 3, false, false⟩]
    ((claiming (.ackRelease us)).engine.metering = none ∧ metering.circuits.length = 96 ∧
      (claiming (.ackRelease us)).engine.claims = .ackRelease us :: [] ∧
      (claiming (.sessionRestore us)).engine.claims = .sessionRestore us :: []) ∧
    ({ owing.agent with held := some (.sessionClose 1 0) } : Agent).held = some (.sessionClose 1 0) ∧
    (owing.agent.held = none) := by decide +kernel

theorem witness_AcknowledgementsAreCheckedAndRetire :
    (([0, 7, 0, 1] : List Byte).length = 4 ∧ ([0, 7, 0] : List Byte).length ≠ 4) ∧
    (idle.session.state = .closed ∧ owing.session.state ≠ .closed ∧ owing.session.id = some 7 ∧
      owing.session.id ≠ some 8 ∧ owing.session.highest = some 1) ∧
    (((1 : Half) - (owing.session.base - 1)).toNat < ((2 : Half) - (owing.session.base - 1)).toNat ∧
      ((0 : Half) - (owing.session.base - 1)).toNat ≤ ((1 : Half) - (owing.session.base - 1)).toNat) ∧
    (0 ≤ owing.session.queue.length ∧ 1 ≤ owing.session.queue.length ∧ owing.session.state = .open_ ∧
      ({ owing.session with state := .hold, timer := none, cause := .noAck } : Session).state = .hold) := by decide +kernel

theorem witness_RetransmitTimerExpiryGoesBackOrHolds :
    owing.session.timer ≠ some 0 ∧ owing.session.timeout ≠ 0 ∧ expired.session.timer = some 0 ∧
      expired.session.state = .open_ ∧ 4 + 1 < expired.session.retry ∧ expired.session.retry ≤ 5 + 1 := by decide +kernel

theorem witness_SessionOpensAndCloses :
    (∃ c, Admitted .sessionOpen c (commanded .sessionOpen (be 2 (65535 : Half).toNat ++ be 2 (0 : Half).toNat) idle)) ∧
    (∃ c, Admitted .sessionClose c (commanded .sessionClose [] owing)) ∧
    (idle.session.state = .closed ∧ owing.session.state ≠ .closed ∧ unitsOf owing.session.queue ≠ [] ∧
      unitsOf (opened idle).session.queue = []) := by
  refine ⟨⟨_, admitted_of .sessionOpen _ idle rfl rfl (.inl (by decide)) rfl⟩,
    ⟨_, admitted_of .sessionClose _ owing rfl rfl (.inl (by decide)) rfl⟩, by decide +kernel⟩

theorem witness_CommandFramesAreTested :
    let queue : List Command := [⟨7, 0x01, [], none⟩]
    (([7] : List Byte).length < 2) ∧
    ((∃ c ∈ queue, c.tag = 7 ∧ c.code = 0x01 ∧ c.broadcast = none) ∧
      ¬ (∃ c ∈ queue, c.tag = 8 ∧ c.code = 0x01 ∧ c.broadcast = none)) ∧
    (({ idle.agent with retained := some ⟨8, 0x01, .ok, []⟩ } : Agent).retained = some ⟨8, 0x01, .ok, []⟩ ∧
      (∃ x ∈ [waitingResponse], x.original = true) ∧ (∀ x ∈ idle.agent.responses, x.original = false) ∧
      (List.replicate 3 waitingResponse).length < 4 ∧ 4 ≤ (List.replicate 4 waitingResponse).length) ∧
    (idle.part.state ≠ .defect ∧ (partIn .defect).part.state = .defect ∧ (0x23 : Byte).toNat = 0x23 ∧
      (0x51 : Byte).toNat = 0x51 ∧ (0x22 : Byte).toNat ≠ 0x23 ∧ (0x22 : Byte).toNat ≠ 0x51) := by decide +kernel

theorem witness_TheAgentRefusesInOrder :
    (beginning (commanded .circuitRead [96] idle) = some ⟨7, 0x30, [96], none⟩ ∧
      lengthOk .circuitRead [96] = true ∧ agentRangeFailure .circuitRead [96] = some 0 ∧
      lengthOk .circuitRead [] = false ∧ (partIn .defect).part.state = .defect) ∧
    (beginning { idle with agent := { idle.agent with queue := [⟨7, 0x99, [], none⟩] } } = some ⟨7, 0x99, [], none⟩ ∧
      ∀ k ∈ allCommands, (0x99 : Byte) ≠ commandOctet k) ∧
    ((commanded .circuitRead [0] idle).agent.held = none ∧ (commanded .circuitRead [0] idle).agent.waiting = none ∧
      (commanded .circuitRead [0] idle).agent.resetPending = none ∧
      commandOctet .circuitRead ≠ commandOctet .statusRead) := by decide +kernel

theorem witness_ResponsesJoinOrWait :
    ((commanded .planCommit [0, 0, 0, 0] idle).agent.queue = ⟨7, 0x17, [0, 0, 0, 0], none⟩ :: []) ∧
    (List.replicate 3 waitingResponse).length < 4 ∧ 4 ≤ (List.replicate 4 waitingResponse).length ∧
    ({ idle.agent with held := some .commit } : Agent).held = some .commit ∧ idle.agent.held ≠ some .commit := by
  decide +kernel

theorem witness_StatusAndCountersAreRead :
    (∃ c, Admitted .statusRead c (commanded .statusRead [] (partIn .defect))) ∧
    (∃ c, Admitted .countersRead c (commanded .countersRead [0] idle)) ∧
    (∃ c, Admitted .countersRead c (commanded .countersRead [1] idle)) :=
  ⟨⟨_, admitted_of .statusRead _ (partIn .defect) rfl rfl (.inr rfl) rfl⟩,
    ⟨_, admitted_of .countersRead _ idle rfl rfl (.inl (by decide)) rfl⟩,
    ⟨_, admitted_of .countersRead _ idle rfl rfl (.inl (by decide)) rfl⟩⟩

theorem witness_SettingsAreReplacedAtOnce :
    (∃ c, Admitted .reportConfig c (commanded .reportConfig (be 2 1 ++ be 2 65535 ++ be 1 1 ++ be 2 50) idle)) ∧
    (∃ c, Admitted .reportConfig c (commanded .reportConfig (be 2 600 ++ be 2 1 ++ be 1 15 ++ be 2 5000) idle)) ∧
    (∃ c, Admitted .eventConfig c (commanded .eventConfig (be 4 (0x7FFFF : Word).toNat) idle)) :=
  ⟨⟨_, admitted_of .reportConfig _ idle rfl rfl (.inl (by decide)) (by decide +kernel)⟩,
    ⟨_, admitted_of .reportConfig _ idle rfl rfl (.inl (by decide)) (by decide +kernel)⟩,
    ⟨_, admitted_of .eventConfig _ idle rfl rfl (.inl (by decide)) (by decide +kernel)⟩⟩

theorem witness_ReportFlushTriggersARun :
    (∃ c, Admitted .reportFlush c (commanded .reportFlush [] (opened idle))) ∧
    (∃ c, AdmittedBroadcast .reportFlush c 0 .buffered (broadcast .reportFlush .buffered idle)) ∧
    (idle.session.state = .closed ∧ (opened idle).session.state ≠ .closed ∧ (opened idle).session.queue.length < 16 ∧
      16 ≤ (List.replicate 16 sentRecord).length) :=
  ⟨⟨_, admitted_of .reportFlush _ (opened idle) rfl rfl (.inl (by decide)) rfl⟩, ⟨_, rfl, rfl, rfl⟩, by decide +kernel⟩

theorem witness_PartResetWaitsForItsMoment :
    (∃ c, Admitted .partReset c (commanded .partReset [] idle)) ∧
    (∃ c, AdmittedBroadcast .partReset c 0 .buffered (broadcast .partReset .buffered idle)) ∧
    (∃ c, AdmittedBroadcast .partReset c 0 .lost (broadcast .partReset .lost idle)) ∧
    (∃ c, AdmittedBroadcast .partReset c 0 .completed (broadcast .partReset .completed idle)) :=
  ⟨⟨_, admitted_of .partReset _ idle rfl rfl (.inl (by decide)) rfl⟩, ⟨_, rfl, rfl, rfl⟩, ⟨_, rfl, rfl, rfl⟩,
    ⟨_, rfl, rfl, rfl⟩⟩

theorem witness_ReadsAndClearsAnswerAtTheBoundary :
    (∃ c, Admitted .circuitRead c (commanded .circuitRead [95] idle)) ∧
    (∃ c, Admitted .referenceRead c (commanded .referenceRead [15] idle)) ∧
    (∃ c, Admitted .meteringClear c (commanded .meteringClear [] idle)) ∧
    ((claiming (.circuitRead 95)).engine.claims = .circuitRead 95 :: [] ∧
      (claiming (.referenceRead 15)).engine.claims = .referenceRead 15 :: [] ∧
      (claiming .meteringClear).engine.claims = .meteringClear :: [] ∧ metering.engine.metering = none ∧
      metering.circuits.length = 96) :=
  ⟨⟨_, admitted_of .circuitRead _ idle rfl rfl (.inl (by decide)) rfl⟩,
    ⟨_, admitted_of .referenceRead _ idle rfl rfl (.inl (by decide)) rfl⟩,
    ⟨_, admitted_of .meteringClear _ idle rfl rfl (.inl (by decide)) rfl⟩, by decide +kernel⟩

theorem witness_PostingsCoalesceJoinOrAreLost :
    let r : EventRecord := ⟨.linkUp, 1, 255, 5, 0, false⟩
    (takesIn .passive = false ∧ (0 : Word).getLsbD (eventCode .linkUp) = false ∧
      idle.events.mask.getLsbD (eventCode .linkUp) = true) ∧
    (r.kind = .linkUp ∧ r.subject = 1 ∧ r.carried = false) ∧
    ((List.replicate 31 r).length < 32 ∧ 32 ≤ (List.replicate 32 r).length) ∧
    (((List.replicate 2 r).filter (matchesPosting .linkUp 1)).length = 2) := by decide +kernel

/-- The hypotheses of the invariants: the state after reset meets them all but PASSIVE and DEFECT, which these states
meet, and a step answers from each. -/
theorem witness_PassiveAndDefectEndOnlyByReset :
    PassiveKeeps (partIn .passive) ∧ ScrubberFits (partIn .defect) ∧ DefectHolds (partIn .defect) :=
  ⟨⟨rfl, rfl, rfl, rfl, rfl, rfl, ⟨rfl, rfl⟩, rfl, rfl, rfl, rfl, fun _ h => by cases h⟩,
    ⟨fun _ => by decide, fun _ => rfl⟩, rfl, fun _ h => by cases h⟩

theorem witness_EveryStepKeepsTheCapacities : Capacities metering ∧ ∃ t, step metering = .next t := by
  refine ⟨⟨?_, ?_, ?_, ?_, ?_, ?_, ?_, ?_, ?_, ?_, ?_, ?_⟩, _, rfl⟩ <;> decide +kernel

theorem witness_EveryStepKeepsTheBanksWellFormed : PlanBanksWf metering := ⟨by decide +kernel, by decide +kernel⟩

theorem witness_EveryStepKeepsTheTimersFitting : TimersFit owing ∧ ScrubberFits owing :=
  ⟨⟨⟨fun _ => .inl rfl, fun _ => rfl⟩, ⟨fun h => (by cases h), fun h => (by cases h)⟩, ⟨fun _ h => (by cases h), fun _ => rfl⟩, fun _ => rfl,
    ⟨fun _ h => (by cases h), fun _ => rfl⟩⟩, ⟨fun h => (by cases h), fun h => absurd rfl h⟩⟩

theorem witness_EveryStepKeepsTheReportQueueConsecutive : QueueFits owing ∧ ClosingsDistinct owing :=
  ⟨⟨by decide +kernel, by decide +kernel, ⟨fun h => (by cases h), fun h => (by cases h)⟩, fun h => (by cases h),
    fun _ _ _ h => (by cases h)⟩, by unfold ClosingsDistinct; decide +kernel⟩

theorem witness_EveryStepKeepsTheUnitsBalanced : UnitsBalance owing ∧ OwedWithinCap owing := by
  refine ⟨⟨by decide +kernel, ?_, fun h => (by cases h), fun before after h => ?_⟩, ?_⟩
  · have h (d : Direction) : ∀ c : Fin 96, ((owing.circ c).dir d).inFlight =
        unitsOfPair c d (unitsOf owing.session.queue) + unitsOfPair c d (owing.engine.claims.flatMap claimUnits) := by
      cases d <;> decide +kernel
    exact fun c d => h d c
  · cases before <;> cases h
  · have h (d : Direction) : ∀ c : Fin 96, ((owing.circ c).dir d).owed ≤ 16777215 := by cases d <;> decide +kernel
    exact fun c d => h d c

theorem witness_EveryStepKeepsTheEnergyWithinBounds : metering.circuits.length = 96 ∧ EnergyWithinBounds metering := by
  have h (d : Direction) : ∀ c : Fin 96, ((metering.circ c).dir d).accumulator ≤ 281474976710655 ∧
      ((metering.circ c).dir d).satLoss ≤ 281474976710655 ∧ ((metering.circ c).dir d).floorDiscarded ≤ 281474976710655 := by
    cases d <;> decide +kernel
  exact ⟨by decide +kernel, fun c d => h d c⟩

theorem witness_EveryStepKeepsTheScansInOrder :
    metering.circuits.length = 96 ∧ metering.refs.length = 16 ∧ ScansInOrder metering := by
  refine ⟨by decide +kernel, by decide +kernel, ?_, ?_⟩
  · intro q h
    have : q.ring = [] := by revert q; decide +kernel
    rw [this]
    exact ⟨List.nodup_nil, trivial⟩
  · intro x h
    have : x.park = [] := by revert x; decide +kernel
    rw [this]
    exact ⟨List.nodup_nil, trivial⟩

end Sys2Proof.Tests
end

section
/-! PROOFS. Scan time and the metering queue (chapter 2): the order of scan numbers (R19) and the malformed SAMPLE frame (R26). -/

namespace Sys2Proof.Machine

/-! ### The order of scan numbers (R19) -/

theorem beyond_eq_mod (u t : Half) : beyond u t = (u.toNat + 65536 - t.toNat) % 65536 := by
  have hsub : beyond u t = (65536 - t.toNat + u.toNat) % 65536 := BitVec.toNat_sub u t
  have ht : t.toNat < 65536 := t.isLt
  rw [hsub]
  congr 1
  omega

theorem beyond_lt (u t : Half) : beyond u t < 65536 := (u - t).isLt

theorem beyond_eq_zero_iff (u t : Half) : beyond u t = 0 ↔ u = t := by
  have hu : u.toNat < 65536 := u.isLt
  have ht : t.toNat < 65536 := t.isLt
  rw [beyond_eq_mod, ← BitVec.toNat_inj]
  omega

theorem newer_iff (u t : Half) : newer u t = true ↔ 1 ≤ beyond u t ∧ beyond u t ≤ 32767 := by
  simp [newer]

theorem older_iff (u t : Half) : older u t = true ↔ 32768 ≤ beyond u t ∧ beyond u t ≤ 65535 := by
  have hlt := beyond_lt u t
  have hmodel : older u t = true ↔ 32768 ≤ beyond u t := decide_eq_true_iff
  rw [hmodel]
  omega

/-- Half the circle of 65536 scans is its own complement: the tie of R19 reads the same from both sides. -/
theorem beyond_swap_of_tie {u t : Half} (tie : beyond u t = 32768) : beyond t u = 32768 := by
  have hu : u.toNat < 65536 := u.isLt
  have ht : t.toNat < 65536 := t.isLt
  rw [beyond_eq_mod] at tie ⊢
  omega

/-- A scan at the tie distance is not newer, but older (R19). -/
theorem not_newer_and_older_of_tie {u t : Half} (tie : beyond u t = 32768) : newer u t = false ∧ older u t = true := by
  rw [← Bool.not_eq_true, newer_iff, older_iff, tie]
  decide

/-- Settles O13: the modular difference read as a number, then the three ranges of R19, then the tie from both sides. -/
theorem scanOrderIsModular : Obligations.ScanOrderIsModular := by
  intro u t
  refine ⟨beyond_eq_mod u t, newer_iff u t, beyond_eq_zero_iff u t, older_iff u t, fun tie => ?_⟩
  obtain ⟨hnewer, holder⟩ := not_newer_and_older_of_tie tie
  obtain ⟨hnewer', holder'⟩ := not_newer_and_older_of_tie (beyond_swap_of_tie tie)
  exact ⟨hnewer, hnewer', holder, holder'⟩

/-! ### The malformed SAMPLE frame (R26) -/

theorem node_beq_255_iff (node : Byte) : (node == 255) = true ↔ node.toNat = 255 := by
  rw [beq_iff_eq, ← BitVec.toNat_inj]
  rfl

/-- The model's tests of a SAMPLE frame one by one: each count is tested below and above its range (R26). -/
theorem malformedSample_iff (node : Byte) (body : List Byte) :
    malformedSample node body = true ↔
      body.length < 5 ∨
      ((octetAt body 3).toNat < 1 ∨ 8 < (octetAt body 3).toNat) ∨
      ((octetAt body 4).toNat < 1 ∨ 8 < (octetAt body 4).toNat) ∨
      body.length ≠ 5 + 2 * (octetAt body 4).toNat * (octetAt body 3).toNat ∨ node.toNat = 255 := by
  simp only [malformedSample, Bool.or_eq_true, decide_eq_true_eq, node_beq_255_iff, or_assoc]

theorem not_one_to_eight_iff (n : Nat) : ¬ (1 ≤ n ∧ n ≤ 8) ↔ n < 1 ∨ 8 < n := by omega

/-- Settles O15: the channel count (octet 3) and the scan count (octet 4) fail their range exactly when they lie below or
above it. -/
theorem malformedSampleFrames : Obligations.MalformedSampleFrames := by
  intro node body
  rw [not_one_to_eight_iff, not_one_to_eight_iff]
  exact malformedSample_iff node body

end Sys2Proof.Machine
end

section
/-! PROOFS. The metering plan (chapter 3): PLAN_CLEAR and PLAN_COPY (R43, R44) and the refusals at a commit boundary (R54). -/

namespace Sys2Proof.Machine

/-! ### The shadow bank cleared and copied (R43, R44) -/

theorem execPlanClear_of_admitted {c : Command} {s : State} (h : Admitted .planClear c s) :
    execPlanClear s = .next (complete .ok [] (s.onPlan fun p => { p with shadow := emptyBank })) :=
  answered_of_admitted h _

theorem execPlanCopy_of_admitted {c : Command} {s : State} (h : Admitted .planCopy c s) :
    execPlanCopy s = .next (complete .ok (be 4 s.plan.active.generation.toNat ++ be 4 s.plan.active.check.toNat)
      (s.onPlan fun p => { p with shadow := p.active })) :=
  answered_of_admitted h _

/-- The empty bank's stored check value is the check of its contents. -/
theorem emptyBank_eq : emptyBank = ⟨emptyContents, 0, planCheck emptyContents⟩ := by
  rw [emptyCheck_is_crc32]
  rfl

/-- Settles O27: each row answers what its owner does, and the empty bank holds the computed check. -/
theorem shadowBankIsClearedAndCopied : Obligations.ShadowBankIsClearedAndCopied := by
  intro c s
  constructor
  · intro admitted
    have hexec : exec .planClear s = execPlanClear s := rfl
    rw [hexec, execPlanClear_of_admitted admitted, emptyBank_eq]
    rfl
  · intro admitted
    exact execPlanCopy_of_admitted admitted

/-! ### The closing set (R53) -/

theorem allCircuits_eq_finRange : allCircuits = List.finRange 96 := by decide

theorem mem_allCircuits (c : Fin 96) : c ∈ allCircuits := by
  rw [allCircuits_eq_finRange]
  exact List.mem_finRange c

theorem allCircuits_ascend : allCircuits.Pairwise (· < ·) := by
  rw [allCircuits_eq_finRange]
  exact List.pairwise_lt_finRange 96

theorem mem_closingSet_iff (active shadow : PlanContents) (c : Fin 96) :
    c ∈ closingSet active shadow ↔ (circuitRecord active c).enabled = true ∧
      ((circuitRecord shadow c).enabled = false ∨
        (circuitRecord shadow c).account ≠ (circuitRecord active c).account) := by
  simp [closingSet, mem_allCircuits]

theorem closingSet_ascends (active shadow : PlanContents) : (closingSet active shadow).Pairwise (· < ·) :=
  allCircuits_ascend.filter _

/-- In an ascending list the search finds the least element that passes its test. -/
theorem find?_eq_some_of_least {l : List (Fin 96)} (ascends : l.Pairwise (· < ·)) {p : Fin 96 → Bool} {c : Fin 96}
    (hmem : c ∈ l) (hp : p c = true) (least : ∀ b ∈ l, b < c → p b = false) : l.find? p = some c := by
  obtain ⟨before, after, rfl⟩ := List.append_of_mem hmem
  refine List.find?_eq_some_iff_append.mpr ⟨hp, before, after, rfl, fun b hb => ?_⟩
  have hlt : b < c := (List.pairwise_append.mp ascends).2.2 b hb c List.mem_cons_self
  simp [least b (by simp [hb]) hlt]

/-! ### The refusals at a commit boundary (R54) -/

theorem be_one (n : Nat) : be 1 n = [BitVec.ofNat 8 n] := by
  simp [be]

/-- Units of the circuit are in flight, in either direction (R99). -/
abbrev UnitsInFlight (s : State) (c : Fin 96) : Prop := 0 < (s.circ c).imp.inFlight ∨ 0 < (s.circ c).exp.inFlight

/-- A closing entry of the circuit is in the closing list (R132). -/
abbrev HasClosing (s : State) (c : Fin 96) : Prop := ∃ k ∈ s.builder.closings, k.circuit = c

section
variable {set : List (Fin 96)} {s : State}

/-- The least circuit of the set with units in flight refuses the commit. -/
theorem commitRefusal_circuitInFlight (ascends : set.Pairwise (· < ·)) {c : Fin 96} (hmem : c ∈ set)
    (hflight : UnitsInFlight s c) (least : ∀ b ∈ set, b < c → ¬ UnitsInFlight s b) :
    commitRefusal set s = some (.circuitInFlight, [BitVec.ofNat 8 c.val]) := by
  have hfind := find?_eq_some_of_least ascends hmem (decide_eq_true hflight) fun b hb hlt =>
    decide_eq_false (least b hb hlt)
  simp only [commitRefusal, hfind, be_one]

/-- With nothing in flight, the least circuit of the set that has a closing entry refuses the commit. -/
theorem commitRefusal_closingBusy (ascends : set.Pairwise (· < ·))
    (idle : ∀ b ∈ set, ¬ UnitsInFlight s b) {c : Fin 96} (hmem : c ∈ set) (hbusy : HasClosing s c)
    (least : ∀ b ∈ set, b < c → ¬ HasClosing s b) :
    commitRefusal set s = some (.closingBusy, [BitVec.ofNat 8 c.val]) := by
  have hnone := List.find?_eq_none.mpr fun b hb => mt of_decide_eq_true (idle b hb)
  have hfind := find?_eq_some_of_least ascends (p := fun b => s.builder.closings.any fun k => k.circuit == b) hmem
    (by simpa using hbusy) fun b hb hlt => by simpa using least b hb hlt
  simp only [commitRefusal, hnone, hfind, be_one]

/-- With nothing in flight and no circuit of the set in the closing list, too few free places refuse the commit. -/
theorem commitRefusal_closingFull (idle : ∀ b ∈ set, ¬ UnitsInFlight s b) (free : ∀ b ∈ set, ¬ HasClosing s b)
    (full : 8 - s.builder.closings.length < set.length) :
    commitRefusal set s = some (.closingFull, be 1 set.length ++ be 1 (8 - s.builder.closings.length)) := by
  have hidle := List.find?_eq_none.mpr fun b hb => mt of_decide_eq_true (idle b hb)
  have hfree : (set.find? fun b => s.builder.closings.any fun k => k.circuit == b) = none :=
    List.find?_eq_none.mpr fun b hb => by simpa using free b hb
  simp only [commitRefusal, hidle, hfree, if_pos full]

end

theorem nextClaim_of_boundary {s : State} {k : Claim} {rest : List Claim} (boundary : s.engine.metering = none)
    (claims : s.engine.claims = k :: rest) : nextClaim s = some k := by
  simp [nextClaim, atBoundary, boundary, claims]

theorem dropClaim_of_claims {s : State} {k : Claim} {rest : List Claim} (claims : s.engine.claims = k :: rest) :
    dropClaim s = { s with engine := { s.engine with claims := rest } } := by
  simp [dropClaim, State.onEngine, claims]

/-- Taking the claim changes nothing the refusals look at. -/
theorem commitRefusal_dropClaim (set : List (Fin 96)) (s : State) :
    commitRefusal set (dropClaim s) = commitRefusal set s := rfl

/-- A refused commit: the claim is taken and the held command answered, over the state as it was (R54). -/
theorem execCommitBoundary_of_refusal {check : Word} {rest : List Claim} {s : State} {st : Status} {results : List Byte}
    (boundary : s.engine.metering = none) (claims : s.engine.claims = .commitBoundary check :: rest)
    (refusal : commitRefusal (closingSet s.plan.active.contents s.plan.shadow.contents) s = some (st, results)) :
    execCommitBoundary s =
      .next (completeHeld .commit st results { s with engine := { s.engine with claims := rest } }) := by
  have hplan : (dropClaim s).plan = s.plan := rfl
  have htake : takeCommit check (dropClaim s) = completeHeld .commit st results (dropClaim s) := by
    simp only [takeCommit, hplan, commitRefusal_dropClaim, refusal]
  have hexec : execCommitBoundary s = .next (takeCommit check (dropClaim s)) := by
    simp only [execCommitBoundary, nextClaim_of_boundary boundary claims]
  rw [hexec, htake, dropClaim_of_claims claims]

/-- Settles O33: the closing set is searched in ascending order, once for each refusal of R54, and the refusal found is
the whole effect of the boundary. -/
theorem commitBoundaryRefuses : Obligations.CommitBoundaryRefuses := by
  intro check rest s boundary claims set inFlight busy answered
  have ascends : set.Pairwise (· < ·) := closingSet_ascends _ _
  have refused {st : Status} {results : List Byte} (refusal : commitRefusal set s = some (st, results)) :
      exec .commitBoundary s = answered st results := execCommitBoundary_of_refusal boundary claims refusal
  refine ⟨mem_closingSet_iff _ _, ?inFlight, fun idle => ⟨?busy, ?full⟩⟩
  case inFlight =>
    intro c hmem hflight least
    exact refused (commitRefusal_circuitInFlight ascends hmem hflight least)
  case busy =>
    intro c hmem hbusy least
    exact refused (commitRefusal_closingBusy ascends idle hmem hbusy least)
  case full =>
    intro free full
    exact refused (commitRefusal_closingFull idle free full)

end Sys2Proof.Machine
end

section
/-! PROOFS. Circuit metering (chapter 5): the corrected product of a pair and its range (R91). -/

namespace Sys2Proof.Machine

/-! ### The corrected product (R91) -/

theorem half_toInt_range (x : Half) : -32768 ≤ x.toInt ∧ x.toInt ≤ 32767 := by
  have lower : -32768 ≤ x.toInt := BitVec.le_toInt x
  have upper : x.toInt < 32768 := BitVec.toInt_lt
  exact ⟨lower, by omega⟩

/-- The signed range is not symmetric: two least factors give the greatest product, and the least product takes one
factor from each end. -/
theorem half_product_range (x y : Half) : -1073709056 ≤ x.toInt * y.toInt ∧ x.toInt * y.toInt ≤ 1073741824 := by
  obtain ⟨hx, hx'⟩ := half_toInt_range x
  obtain ⟨hy, hy'⟩ := half_toInt_range y
  refine ⟨?lower, BitVec.toInt_mul_toInt_le⟩
  case lower =>
    obtain hpos | hneg := le_total 0 x.toInt
    · have hmul : x.toInt * -32768 ≤ x.toInt * y.toInt := Int.mul_le_mul_of_nonneg_left hy hpos
      omega
    · have hmul : x.toInt * 32767 ≤ x.toInt * y.toInt := Int.mul_le_mul_of_nonpos_left hneg hy'
      omega

/-- The truncation toward zero keeps bounds on both sides of zero: both are rounded toward zero, too. -/
theorem tdiv_mem_range {n lo hi k : Int} (hk : 0 < k) (hlo : 0 ≤ lo) (hhi : 0 ≤ hi) (hn : -lo ≤ n) (hn' : n ≤ hi) :
    -(lo / k) ≤ n.tdiv k ∧ n.tdiv k ≤ hi / k := by
  rw [← Int.tdiv_eq_ediv_of_nonneg hlo, ← Int.tdiv_eq_ediv_of_nonneg hhi, ← Int.neg_tdiv]
  exact ⟨Int.tdiv_le_tdiv hk hn, Int.tdiv_le_tdiv hk hn'⟩

/-- The gain moves a product that is not negative by a factor from −0.5 to just under +0.5. -/
theorem gain_range_of_nonneg {p : Int} (hp : 0 ≤ p) (g : Half) :
    -(p * 32768 / 65536) ≤ (p * g.toInt).tdiv 65536 ∧ (p * g.toInt).tdiv 65536 ≤ p * 32767 / 65536 := by
  obtain ⟨hg, hg'⟩ := half_toInt_range g
  have lower : p * -32768 ≤ p * g.toInt := Int.mul_le_mul_of_nonneg_left hg hp
  have upper : p * g.toInt ≤ p * 32767 := Int.mul_le_mul_of_nonneg_left hg' hp
  exact tdiv_mem_range (by decide) (by omega) (by omega) (by omega) upper

/-- The gain-corrected product p′ of a product in its range: both its ends come from the greatest gain, 32767. -/
theorem gained_range {p : Int} (hp : -1073709056 ≤ p) (hp' : p ≤ 1073741824) (g : Half) :
    -1610547200 ≤ p + (p * g.toInt).tdiv 65536 ∧ p + (p * g.toInt).tdiv 65536 ≤ 1610596352 := by
  obtain hpos | hneg := le_total 0 p
  · obtain ⟨lower, upper⟩ := gain_range_of_nonneg hpos g
    omega
  · obtain ⟨lower, upper⟩ := gain_range_of_nonneg (Int.neg_nonneg_of_nonpos hneg) g
    have htrunc : (-p * g.toInt).tdiv 65536 = -(p * g.toInt).tdiv 65536 := by rw [Int.neg_mul, Int.neg_tdiv]
    rw [htrunc] at lower upper
    omega

/-- The corrected product p″ as R91 writes it: the product, the gain's share of it, the offset. -/
theorem correctedProduct_eq (r : CircuitRecord) (i v : Half) :
    correctedProduct r i v =
      v.toInt * i.toInt + (v.toInt * i.toInt * r.gain.toInt).tdiv 65536 + r.offset.toInt := rfl

theorem correctedProduct_range (r : CircuitRecord) (i v : Half) :
    -1610579968 ≤ correctedProduct r i v ∧ correctedProduct r i v ≤ 1610629119 := by
  obtain ⟨hp, hp'⟩ := half_product_range v i
  obtain ⟨lower, upper⟩ := gained_range hp hp' r.gain
  obtain ⟨ho, ho'⟩ := half_toInt_range r.offset
  rw [correctedProduct_eq]
  omega

theorem gained_of_gain_zero (p : Int) {g : Half} (hg : g = 0) : p + (p * g.toInt).tdiv 65536 = p := by
  simp [hg]

/-- Settles O24: the reached range of p″, from −1,610,579,968 to 1,610,629,119, lies within the range R91 states. -/
theorem correctedProductIsExact : Obligations.CorrectedProductIsExact := by
  intro r i v p gained
  obtain ⟨product_lower, product_upper⟩ := half_product_range v i
  obtain ⟨lower, upper⟩ := correctedProduct_range r i v
  exact ⟨product_upper, product_lower, correctedProduct_eq r i v, by omega, by omega, gained_of_gain_zero p⟩

end Sys2Proof.Machine
end


section
/-! PROOFS. What a step can do, said once: every command's execution is a full reset or a chain of elementary updates, each
with the contract that the invariants need of it. -/

namespace Sys2Proof.Machine

/-! ### The accounts of chapters 2.6 and 5.2 -/

/-- The six counters of the endings of a SAMPLE frame, with the frames in the queue and in metering (2.6). -/
def scanAccount (e : Engine) : Word :=
  e.counters.notMeteredPart + e.counters.notMeteredMalformed + e.counters.notMeteredNoSync + e.counters.notMeteredEpoch +
    e.counters.overruns + e.counters.framesMetered +
    BitVec.ofNat 32 (e.queue.length + if e.metering.isSome then 1 else 0)

/-- The five counters of a circuit's current samples, with its park queue (5.2). -/
def sampleAccount (x : CircuitState) : Word :=
  x.paired + x.missed + x.unqualified + x.flushed + x.duplicate + BitVec.ofNat 32 x.park.length

/-- Every command but COUNTERS_READ and a frame end at the Field port keeps the account of SAMPLE frames. -/
def keepsScanAccount : Instr → Bool
  | .frameEnd ⟨.field, _⟩ => false
  | .countersRead => false
  | _ => true

/-- The commands that clear a circuit's counters or handle a sample; every other keeps the account of current samples. -/
def keepsSampleAccount : Instr → Bool
  | .voltageSample => false
  | .currentSample => false
  | .countersRead => false
  | .commitBoundary => false
  | .meteringClearClaim => false
  | _ => true

/-! ### Contracts of the updates -/

/-- What the sync monitor's timer and interval fit (2.2). -/
def SyncFits (y : Sync) : Prop :=
  (y.timer.isSome = true ↔ y.state = .locked ∨ y.state = .holdover) ∧ (y.interval = none ↔ y.state = .none)

/-- A direction's three energies lie within 48 bits (R92, R112). -/
def DirState.Bounded (x : DirState) : Prop :=
  x.accumulator ≤ 281474976710655 ∧ x.satLoss ≤ 281474976710655 ∧ x.floorDiscarded ≤ 281474976710655

/-- An update of a direction that moves no unit in flight, and keeps the owed cap and the bounds of the energies. -/
structure DirTame (x y : DirState) : Prop where
  inFlight : y.inFlight = x.inFlight
  owed : x.owed ≤ 16777215 → y.owed ≤ 16777215
  bounded : x.Bounded → y.Bounded

/-- An update of a circuit that is tame in both directions and takes parked samples only from the head of the queue. -/
structure CircuitTame (x y : CircuitState) : Prop where
  park : y.park <:+ x.park
  imp : DirTame x.imp y.imp
  exp : DirTame x.exp y.exp

/-- What a record carries, its state left aside. -/
def Record.content (r : Record) : Half × Half × List Entry := (r.session, r.sequence, r.entries)

/-- The session's bookkeeping: counts, settings, record states and the retransmit timer, under the session as it is. -/
structure SessionKept (q r : Session) : Prop where
  content : r.queue.map Record.content = q.queue.map Record.content
  next : r.next = q.next
  id : r.id = q.id
  highest : r.highest = q.highest
  state : r.state = q.state
  cause : r.cause = q.cause
  timer : r.timer.isSome = true → q.timer.isSome = true ∨ q.state = .open_

/-- Both banks of a plan store keep the shape of R37 and R38. -/
def BanksWf (p : PlanStore) : Prop := contentsWf p.active.contents = true ∧ contentsWf p.shadow.contents = true

/-- The session taken apart by SESSION_CLOSE, before its claim or its answer (R150 steps 1 and 3). -/
def takenApart (s : State) : State :=
  ((orphanTx s.session.queue s).onSession closedSession).onBuilder fun b =>
    { b with closings := unbindClosings s.session.queue b.closings, timer := none }

/-- The run's record built, before the REPORT_FLUSH held for it is answered (R127 to R130). -/
def composed (run : Run) (s : State) : State :=
  (appendRecord run.entries (s.onCircuits fun _ => run.circuits)).onBuilder fun b =>
    { b with closings := b.closings.map (bindClosing s.session.next), built := b.built + 1, idle := 0,
             cursor := match run.last with
               | none => b.cursor
               | some c => c + 1 }

/-! ### The updates -/

/-- An elementary update of the state that a command i makes. -/
inductive Update (i : Instr) (s : State) : State → Prop
  | links (f : Links → Links) (up : s.links.up.length ≤ 4 → (f s.links).up.length ≤ 4)
      (down : s.links.down.length ≤ 4 → (f s.links).down.length ≤ 4)
      (tx : ∀ t, (f s.links).headTx = some t → s.links.headTx = some t ∨ ∀ q b, t.source ≠ .tally (some q) b) :
      Update i s (s.onLinks f)
  | sendsTally (r : Record) (again : Bool) (octets : Frame) (queued : r ∈ s.session.queue) :
      Update i s (beginHead (.tally (some r.sequence) again) octets s)
  | events (f : Events → Events) (places : s.events.queue.length ≤ 32 → (f s.events).queue.length ≤ 32) :
      Update i s (s.onEvents f)
  | agent (f : Agent → Agent) (commands : s.agent.queue.length ≤ 4 → (f s.agent).queue.length ≤ 4)
      (responses : s.agent.responses.length ≤ 4 → (f s.agent).responses.length ≤ 4)
      (held : (f s.agent).held = s.agent.held ∨ s.agent.held ≠ some .meteringClear) : Update i s (s.onAgent f)
  | sync (f : Sync → Sync) (fits : SyncFits s.sync → SyncFits (f s.sync)) : Update i s (s.onSync f)
  | plan (f : PlanStore → PlanStore) (banks : BanksWf s.plan → BanksWf (f s.plan))
      (pass : (f s.plan).pass = .stopped ↔ s.plan.pass = .stopped) : Update i s (s.onPlan f)
  | starts (straps : BitVec 5) (bypass : s.part.state = .bypass) : Update i s (enterStarting straps s)
  | selfChecked (next : PartState) (passed : Bool) (starting : s.part.state = .starting) (fits : next ≠ .metering) :
      Update i s ((s.onPart fun p => { p with state := next, selfCheckPassed := passed, relayDrive := true }).onPlan
        fun _ => .reset)
  | faults (computed : Word) (position : Nat) (check : Word) (running : s.plan.pass = .running position check) :
      Update i s (faultPlan computed s)
  | commitsPart (new : PlanContents) (only : i = .commitBoundary) : Update i s (commitPartState new s)
  | closesCircuit (active : PlanContents) (c : Fin 96) (only : i = .commitBoundary)
      (idle : (s.circ c).imp.inFlight = 0 ∧ (s.circ c).exp.inFlight = 0) (free : ∀ k ∈ s.builder.closings, k.circuit ≠ c)
      (room : s.builder.closings.length < 8) : Update i s (closeCircuit active s c)
  | session (f : Session → Session) (kept : SessionKept s.session (f s.session)) : Update i s (s.onSession f)
  | tallySent (q : Half) (again : Bool) (octets : Frame) (tx : s.links.headTx = some ⟨.tally (some q) again, octets⟩) :
      Update i s (s.onSession (tallySent q))
  | holds (cause : HoldCause) (opened : s.session.state = .open_) (named : cause ≠ .none) :
      Update i s (s.onSession fun q => { q with state := .hold, cause := cause, timer := none })
  | resumes (held : s.session.state = .hold) :
      Update i s (s.onSession fun q =>
        { q with state := .open_, cause := .none, timeouts := 0, timer := none, queue := markResend q.queue })
  | retires (n : Nat) (live : s.session.state ≠ .closed) : Update i s (retire n s)
  | opens (id first : Half) (closed : s.session.state = .closed) (begun : s.agent.held = none) :
      Update i s (openSession id first s)
  | closes (units : unitsOf s.session.queue = []) : Update i s (takenApart s)
  | restoring (h : Held) (begun : s.agent.held = none) :
      Update i s (placeClaim (.sessionRestore (unitsOf s.session.queue)) (hold h (takenApart s)))
  | builder (f : Builder → Builder)
      (closings : ((f s.builder).closings.map Closing.circuit).Sublist (s.builder.closings.map Closing.circuit))
      (timer : (f s.builder).timer.isSome = s.builder.timer.isSome) : Update i s (s.onBuilder f)
  | records (accepts : builderAccepts s = true) : Update i s (composed (visitAll s) s)
  | appends (accepts : builderAccepts s = true) : Update i s (appendRecord [] s)
  | engine (f : Engine → Engine) (queue : s.engine.queue.length ≤ 8 → (f s.engine).queue.length ≤ 8)
      (claims : (f s.engine).claims = s.engine.claims)
      (account : keepsScanAccount i = true → scanAccount (f s.engine) = scanAccount s.engine) : Update i s (s.onEngine f)
  | places (k : Claim) (units : claimUnits k = []) (clear : k ≠ .meteringClear)
      (commit : ∀ check, k = .commitBoundary check → s.part.state ≠ .defect) : Update i s (placeClaim k s)
  | placesClear (closed : s.session.state = .closed) (begun : s.agent.held = none) :
      Update i s (placeClaim .meteringClear (hold .meteringClear s))
  | takesClaim (k : Claim) (next : nextClaim s = some k) (units : claimUnits k = []) (clear : k ≠ .meteringClear) :
      Update i s (dropClaim s)
  | releases (us : List UnitsRef) (next : nextClaim s = some (.ackRelease us)) :
      Update i s (releaseUnits us (dropClaim s))
  | restores (us : List UnitsRef) (next : nextClaim s = some (.sessionRestore us)) :
      Update i s (us.foldl restoreUnits (dropClaim s))
  | clears (next : nextClaim s = some .meteringClear) (only : i = .meteringClearClaim) :
      Update i s (clearMetering (dropClaim s))
  | circuit (c : Fin 96) (f : CircuitState → CircuitState) (tame : CircuitTame (s.circ c) (f (s.circ c)))
      (account : keepsSampleAccount i = true → sampleAccount (f (s.circ c)) = sampleAccount (s.circ c)) :
      Update i s (s.onCirc c f)
  | circuits (f : CircuitState → CircuitState) (tame : ∀ x, CircuitTame x (f x))
      (account : keepsSampleAccount i = true → ∀ x, sampleAccount (f x) = sampleAccount x) :
      Update i s (s.onCircuits fun l => l.map f)
  | parks (c : Fin 96) (x : Parked) (only : i = .currentSample) (fresh : ∀ y ∈ (s.circ c).park, y.scan ≠ x.scan) :
      Update i s (parkSample c x s)
  | references (g : List RefState → List RefState) (length : (g s.refs).length = s.refs.length)
      (rings : ∀ y ∈ g s.refs, y.ring = [] ∨ ∃ q ∈ s.refs, y.ring = q.ring) : Update i s (s.onRefs g)
  | stores (r : Fin 16) (x : RingSample) (fresh : ∀ y ∈ (s.ref r).ring, y.scan ≠ x.scan) :
      Update i s (s.onRef r fun q => { q with ring := ringStore (s.ref r).ring x, stored := q.stored + 1 })

/-- A chain of updates that a command makes. -/
def Updates (i : Instr) : State → State → Prop := Relation.ReflTransGen (Update i)

theorem Updates.refl (i : Instr) (s : State) : Updates i s s := Relation.ReflTransGen.refl

theorem Updates.one {i : Instr} {s t : State} (h : Update i s t) : Updates i s t := Relation.ReflTransGen.single h

theorem Updates.trans {i : Instr} {s t u : State} (h : Updates i s t) (k : Updates i t u) : Updates i s u :=
  Relation.ReflTransGen.trans h k

theorem Updates.andThen {i : Instr} {s t u : State} (h : Updates i s t) (k : Update i t u) : Updates i s u :=
  Relation.ReflTransGen.tail h k

/-- Where every alternative is a chain of updates, the choice is one. -/
theorem Updates.ite {i : Instr} {s t u : State} {p : Prop} [Decidable p] (ht : p → Updates i s t)
    (hu : ¬ p → Updates i s u) : Updates i s (if p then t else u) := by
  split
  · exact ht ‹_›
  · exact hu ‹_›

/-- A command answers a next state: a full reset, or what a chain of its updates leaves. -/
def Answers (i : Instr) (s : State) (r : Result) : Prop :=
  ∃ t, r = .next t ∧ ((∃ cause, t = fullReset cause s) ∨ Updates i s t)

theorem Answers.updates {i : Instr} {s t : State} (h : Updates i s t) : Answers i s (.next t) := ⟨t, rfl, .inr h⟩

theorem Answers.stays (i : Instr) (s : State) : Answers i s (.next s) := .updates (.refl i s)

theorem Answers.resets (i : Instr) (cause : ResetCause) (s : State) : Answers i s (.next (fullReset cause s)) :=
  ⟨_, rfl, .inl ⟨cause, rfl⟩⟩

theorem Answers.ofOccurs {i : Instr} {s t : State} {b : Bool} (h : b = true → Answers i s (.next t)) :
    Answers i s (occurs b s t) := by
  cases b with
  | false => exact .stays i s
  | true => exact h rfl

end Sys2Proof.Machine
end


section
/-! PROOFS. The updates that the links, arriving frames and transmissions make (chapter 1, 2.2, 2.3, 8.4, 9.2). -/

namespace Sys2Proof.Machine

variable {i : Instr} {s : State}

/-! ### Shared operations -/

theorem post_updates (k : EventKind) (a : Half) (v : Word) (s : State) : Updates i s (post k a v s) :=
  .one (.events _ (length_posted k a v s.part s.events))

theorem onPort_updates (p : PortId) (f : Port → Port) (s : State) : Updates i s (s.onPort p f) :=
  .one (.links _ (by simp) (by simp) fun _ h => .inl (by simpa using h))

/-- An update of the links that leaves both buffers and the frame in transmission. -/
theorem onLinks_updates (f : Links → Links) (up : (f s.links).up = s.links.up) (down : (f s.links).down = s.links.down)
    (tx : (f s.links).headTx = s.links.headTx) : Updates i s (s.onLinks f) :=
  .one (.links f (by rw [up]; exact id) (by rw [down]; exact id) fun _ h => .inl (tx ▸ h))

/-- An update of the agent's counters and copies that leaves what it holds and its two queues as long. -/
theorem onAgent_updates (f : Agent → Agent) (queue : (f s.agent).queue.length = s.agent.queue.length)
    (responses : (f s.agent).responses.length = s.agent.responses.length) (held : (f s.agent).held = s.agent.held) :
    Updates i s (s.onAgent f) :=
  .one (.agent f (by rw [queue]; exact id) (by rw [responses]; exact id) (.inl held))

/-- An update of the session that counts, and leaves everything else of it. -/
theorem onSession_updates (f : Session → Session) (kept : SessionKept s.session (f s.session)) :
    Updates i s (s.onSession f) := .one (.session f kept)

theorem enterHold_updates {cause : HoldCause} (opened : s.session.state = .open_) (named : cause ≠ .none) :
    Updates i s (enterHold cause s) := .trans (.one (.holds cause opened named)) (post_updates _ _ _ _)

theorem resumeSession_updates (held : s.session.state = .hold) : Updates i s (resumeSession s) :=
  .trans (.one (.resumes held)) (post_updates _ _ _ _)

theorem offerUp_updates (f : Frame) (s : State) : Updates i s (offerUp f s) := by
  refine .ite (fun room => .one (.links _ (fun _ => ?_) (by simp) fun _ h => .inl h)) fun _ => onPort_updates _ _ s
  simpa using room

theorem offerDown_updates (f : DownFrame) (s : State) : Updates i s (offerDown f s) := by
  refine .ite (fun room => .one (.links _ (by simp) (fun _ => ?_) fun _ h => .inl h)) fun _ => onPort_updates _ _ s
  simpa using room

theorem noteCopy_updates (n : Option Nat) (fate : CopyFate) (s : State) : Updates i s (noteCopy n fate s) :=
  onAgent_updates _ (by simp) rfl rfl

theorem tail_length_le {α : Type} (l : List α) {n : Nat} (h : l.length ≤ n) : l.tail.length ≤ n := by
  rw [List.length_tail]
  omega

theorem dropDownHead_updates (s : State) : Updates i s (dropDownHead s) :=
  .one (.links _ id (tail_length_le _) fun _ h => .inl h)

theorem dropUpHead_updates (s : State) : Updates i s (s.onLinks fun l => { l with up := l.up.tail }) :=
  .one (.links _ (tail_length_le _) id fun _ h => .inl h)

/-- The frame in transmission ends: nothing is in transmission at Head transmit. -/
theorem endHeadTx_updates (s : State) : Updates i s (s.onLinks fun l => { l with headTx := none }) :=
  .one (.links _ id id fun _ h => nomatch h)

/-! ### Leaving UP and entering it (R1 to R4, R13, R148, R149) -/

theorem abortField_updates (s : State) : Updates i s (abortField s) :=
  .ite (fun _ => ((noteCopy_updates _ _ s).trans (dropDownHead_updates _)).trans (onPort_updates _ _ _)) fun _ => .refl i s

theorem releaseCarried_updates (s : State) : Updates i s (releaseCarried s) := .one (.events _ (by simp))

theorem abortSource_updates (src : HeadSource) (s : State) : Updates i s (abortSource src s) := by
  cases src with
  | response => exact .refl i s
  | forward => exact dropUpHead_updates s
  | tally record again => exact .refl i s
  | event => exact releaseCarried_updates s

theorem abortHead_updates (s : State) : Updates i s (abortHead s) := by
  unfold abortHead
  split
  · exact .refl i s
  · exact ((abortSource_updates _ s).trans (endHeadTx_updates _)).trans (onPort_updates _ _ _)

theorem abortTx_updates (p : PortId) (s : State) : Updates i s (abortTx p s) := by
  cases p with
  | field => exact abortField_updates s
  | head => exact abortHead_updates s

theorem leaveUp_updates (p : PortId) (state : PortState) (line : Line) (value : Word) (s : State) :
    Updates i s (leaveUp p state line value s) := by
  have left : Updates i s (post .linkDown (portSubject p) value ((abortTx p (s.onPort p discardReception)).onPort p fun q =>
      { q with state := state, line := line, qualified := none,
               counters := { q.counters with linkDowns := q.counters.linkDowns + 1 } })) :=
    (((onPort_updates _ _ s).trans (abortTx_updates p _)).trans (onPort_updates _ _ _)).trans (post_updates _ _ _ _)
  refine .ite (fun h => left.trans (enterHold_updates ?_ (by decide))) fun _ => left
  simpa using h.2

theorem enterBreak_updates (p : PortId) (s : State) : Updates i s (enterBreak p s) :=
  (onPort_updates _ _ s).trans (onLinks_updates _ rfl rfl rfl)

theorem loseLink_updates (p : PortId) (k : LinkLoss) (s : State) : Updates i s (loseLink p k s) := by
  cases k with
  | signal => exact leaveUp_updates _ _ _ _ s
  | break_ => exact (leaveUp_updates _ _ _ _ s).trans (enterBreak_updates p _)

theorem enterUp_updates (p : PortId) (s : State) : Updates i s (enterUp p s) := by
  have up : Updates i s (post .linkUp (portSubject p) 0 (s.onPort p fun q => { q with state := .up, qualified := none })) :=
    (onPort_updates _ _ s).trans (post_updates _ _ _ _)
  refine .ite (fun h => up.trans (resumeSession_updates ?_)) fun _ => up
  simpa using h.2

/-! ### SAMPLE and SYNC frames (R21 to R28) -/

theorem acceptSample_updates (exempt : keepsScanAccount i = false) (node : Byte) (body : List Byte) (s : State) :
    Updates i s (acceptSample node body s) := by
  have counted (f : ScanCounters → ScanCounters) (s : State) : Updates i s (s.onScanCounters f) :=
    .one (.engine _ id rfl fun h => absurd h (by simp [exempt]))
  have admitted (f : SampleFrame) : Updates i s (admitSample f s) :=
    .ite (fun room => .one (.engine _ (fun _ => by simpa using room) rfl fun h => absurd h (by simp [exempt])))
      fun _ => (counted _ s).trans (post_updates _ _ _ _)
  exact .ite (fun _ => counted _ s) fun _ => .ite (fun _ => counted _ s) fun _ => .ite (fun _ => counted _ s) fun _ =>
    .ite (fun _ => counted _ s) fun _ => admitted _

theorem syncFrame_updates (body : List Byte) (s : State) : Updates i s (syncFrame body s) := by
  have checked (epoch : Byte) : Updates i s (epochCheck epoch s) :=
    .ite (fun _ => (post_updates _ _ _ s).trans (.one (.places .epochFlush rfl nofun nofun))) fun _ => .refl i s
  refine .ite (fun _ => ?_) fun _ => .one (.sync _ id)
  have locked := (checked (octetAt body 0)).andThen (.sync (fun y => { y with
    state := .locked, epoch := octetAt body 0, scan := BitVec.ofNat 16 (fieldAt body 1 2), interval := some (fieldAt body 3 2)
    timer := some (Config.lockedIntervals * fieldAt body 3 2), taken := y.taken + 1 }) fun _ => by simp [SyncFits])
  exact .ite (fun _ => locked) fun _ => locked.trans (post_updates _ _ _ _)

/-! ### ACK frames (R143 to R149) -/

theorem ackTimer_kept (q : Session) : SessionKept q (ackTimer q) where
  content := rfl
  next := rfl
  id := rfl
  highest := rfl
  state := rfl
  cause := rfl
  timer h := by
    by_cases opened : q.state = .open_
    · exact .inr opened
    · exact .inl (by simpa [ackTimer, opened] using h)

/-- Retiring records leaves the state of the session. -/
@[simp] theorem retire_session_state (n : Nat) (s : State) : (retire n s).session.state = s.session.state := by
  unfold retire
  dsimp only
  split <;> simp

theorem takeAck_updates (n : Nat) (live : s.session.state ≠ .closed) : Updates i s (takeAck n s) := by
  have retired : Updates i s (retire n (s.onSession fun q => { q with acksTaken := q.acksTaken + 1 })) :=
    (onSession_updates _ ⟨rfl, rfl, rfl, rfl, rfl, rfl, .inl⟩).andThen (.retires n live)
  have timed := Updates.ite (p := n = 0) (fun _ => retired) fun _ => retired.trans (onSession_updates _ (ackTimer_kept _))
  refine .ite (fun held => timed.trans (resumeSession_updates ?_)) fun _ => timed
  split <;> simp [ackTimer, held]

theorem ackFrame_updates (body : List Byte) (s : State) : Updates i s (ackFrame body s) := by
  have stray : Updates i s (s.onSession fun q => { q with acksStray := q.acksStray + 1 }) :=
    onSession_updates _ ⟨rfl, rfl, rfl, rfl, rfl, rfl, .inl⟩
  have stale : Updates i s (s.onSession fun q => { q with acksStale := q.acksStale + 1 }) :=
    onSession_updates _ ⟨rfl, rfl, rfl, rfl, rfl, rfl, .inl⟩
  refine .ite (fun _ => stray) fun _ => .ite (fun _ => stale) fun live => .ite (fun _ => stale) fun _ => ?_
  split
  · exact stray
  · exact .ite (fun _ => takeAck_updates _ ((sessionLive_iff s).mp (by simpa using live))) fun _ => stray

/-! ### COMMAND frames (R156 to R158) -/

theorem queueCommand_updates (c : Command) (s : State) : Updates i s (queueCommand c s) :=
  .ite (fun room => .one (.agent _ (fun _ => by simpa using room) id (.inl rfl))) fun _ => onAgent_updates _ rfl rfl rfl

theorem commandFrame_updates (broadcast : Option (Nat × CopyFate)) (body : List Byte) (s : State) :
    Updates i s (commandFrame broadcast body s) := by
  have counted (f : Agent → Agent) (h : f s.agent = { s.agent with
      malformed := (f s.agent).malformed, overruns := (f s.agent).overruns, duplicates := (f s.agent).duplicates
      repeated := (f s.agent).repeated, broadcastsIgnored := (f s.agent).broadcastsIgnored }) : Updates i s (s.onAgent f) :=
    onAgent_updates f (by rw [h]) (by rw [h]) (by rw [h])
  refine .ite (fun _ => counted _ rfl) fun _ => ?_
  cases broadcast with
  | some b => exact .ite (fun _ => queueCommand_updates _ s) fun _ => counted _ rfl
  | none =>
    refine .ite (fun _ => counted _ rfl) fun _ => ?_
    split
    · exact queueCommand_updates _ s
    · exact .ite
        (fun _ => .ite (fun _ => counted _ rfl) fun _ => .ite
          (fun room => .one (.agent _ id (fun _ => by simpa using room) (.inl rfl))) fun _ => counted _ rfl)
        fun _ => queueCommand_updates _ s

/-! ### Good frames and frame ends (R7 to R10, R149) -/

theorem broadcastFrame_updates (f : Frame) (s : State) : Updates i s (broadcastFrame f s) := by
  unfold broadcastFrame
  exact ((offerDown_updates ⟨f, some s.agent.nextCopy⟩ s).trans
    (onAgent_updates (fun a => { a with nextCopy := a.nextCopy + 1 }) rfl rfl rfl)).trans (commandFrame_updates _ _ _)

theorem headFrame_updates (f : Frame) (s : State) : Updates i s (headFrame f s) := by
  have offered : Updates i s (offerDown ⟨f, none⟩ s) := offerDown_updates _ s
  exact .ite (fun _ => offered) fun _ => .ite (fun _ => offered.trans (syncFrame_updates _ _)) fun _ =>
    .ite (fun _ => .ite (fun _ => commandFrame_updates _ _ s) fun _ =>
      .ite (fun _ => broadcastFrame_updates f s) fun _ => offered) fun _ =>
    .ite (fun _ => ackFrame_updates _ s) fun _ => offered

theorem fieldFrame_updates (exempt : keepsScanAccount i = false) (f : Frame) (s : State) :
    Updates i s (fieldFrame f s) :=
  .ite (fun _ => (offerUp_updates f s).trans (acceptSample_updates exempt _ _ _)) fun _ => offerUp_updates f s

/-- A completed reception: only one at the Field port can offer a SAMPLE frame. -/
theorem endReception_updates {p : PortId} (exempt : p = .field → keepsScanAccount i = false) (s : State) :
    Updates i s (endReception p s) := by
  have good (f : Frame) (s : State) : Updates i s (goodArrival p f s) := by
    cases p with
    | field => exact fieldFrame_updates (exempt rfl) f s
    | head => exact headFrame_updates f s
  unfold endReception
  split
  · exact .ite (fun _ => (onPort_updates _ _ s).trans (onPort_updates _ _ _)) fun _ =>
      .ite (fun _ => (onPort_updates _ _ s).trans (onPort_updates _ _ _)) fun _ =>
      ((onPort_updates _ _ s).trans (onPort_updates _ _ _)).trans (good _ _)
  · exact .refl i s
  · exact .refl i s

theorem frameEnd_updates (ending : FrameEnding) (s : State) : Answers (.frameEnd ending) s (execFrameEnd ending s) := by
  have ended : Updates (.frameEnd ending) s (endReception ending.port s) :=
    endReception_updates (fun h => by rcases ending with ⟨_ | _, _⟩ <;> simp_all [keepsScanAccount]) s
  refine .ofOccurs fun _ => .updates ?_
  split
  · exact ended
  · split
    · exact (((onPort_updates _ _ s).trans (onPort_updates _ _ _)).trans (loseLink_updates _ _ _)).trans
        (ackFrame_updates _ _)
    · exact ended.trans (loseLink_updates _ _ _)

/-! ### Transmissions (R12 to R17, R142, R162, R171, R177) -/

/-- A transmission begins of a frame that is no TALLY. -/
theorem beginHead_updates {source : HeadSource} (other : ∀ q b, source ≠ .tally (some q) b) (octets : Frame) (s : State) :
    Updates i s (beginHead source octets s) :=
  .one (.links _ id id fun t h => .inr (by cases h; exact other))

/-- The eligible record stands in the report queue (R141). -/
theorem eligible_mem {q : Session} {r : Record} (h : q.eligible = some r) : r ∈ q.queue := by
  unfold Session.eligible at h
  split at h
  · cases h
  · cases h
  · split at h
    · cases h
    · next found =>
      split at h
      · cases h
        exact List.mem_of_find?_eq_some found
      · cases h

theorem length_carryFirst (q : List EventRecord) : (carryFirst q).length = q.length := by
  simp [carryFirst]
  omega

theorem sendOwn_updates (s : State) : Updates i s (sendOwn s) := by
  have served : Updates i s (serve .own s) := onLinks_updates _ rfl rfl rfl
  unfold sendOwn
  split
  · next r eligible => exact served.andThen (.sendsTally r _ _ (eligible_mem eligible))
  · refine (served.andThen (.events _ ?_)).trans (beginHead_updates (by simp) _ _)
    rw [length_carryFirst]
    exact id

theorem choose_updates (s : State) : Updates i s (choose s) := by
  have forward (f : Frame) : Updates i s (sendForward f s) :=
    .trans (onLinks_updates _ rfl rfl rfl) (beginHead_updates (by simp) _ _)
  unfold choose
  split
  · exact beginHead_updates (by simp) _ _
  · split
    · exact .ite (fun _ => sendOwn_updates s) fun _ => .refl i s
    · exact .ite (fun _ => sendOwn_updates s) fun _ => forward _

/-- Admitting the waiting response keeps both queues of the agent within their places, and what it holds. -/
theorem admitWaiting_fits (a : Agent) :
    (a.queue.length ≤ 4 → (admitWaiting a).queue.length ≤ 4) ∧
      (a.responses.length ≤ 4 → (admitWaiting a).responses.length ≤ 4) ∧ (admitWaiting a).held = a.held := by
  unfold admitWaiting
  split
  · exact ⟨id, id, rfl⟩
  · split
    · next room => exact ⟨tail_length_le _, fun _ => by simpa using room, rfl⟩
    · exact ⟨id, id, rfl⟩

theorem popResponse_updates (s : State) : Updates i s (popResponse s) := by
  obtain ⟨commands, responses, held⟩ := admitWaiting_fits { s.agent with responses := s.agent.responses.tail }
  exact .one (.agent _ commands (fun h => responses (tail_length_le _ h)) (.inl held))

theorem eventComplete_updates (s : State) : Updates i s (eventComplete s) :=
  .one (.events _ fun places => (List.length_filter_le _ _).trans places)

/-- A completed transmission at Head transmit. A completed TALLY marks its record while the frame still stands in the state:
marking and ending the transmission touch different blocks. -/
theorem completeHead_answers (s : State) : Answers i s (.next (completeHead s)) := by
  unfold completeHead
  split
  · exact .stays i s
  · next tx h =>
    have ended (t : State) : Updates i t ((t.onLinks fun l => { l with headTx := none }).onPort .head
        (Port.count fun k => { k with transmitted := k.transmitted + 1 })) :=
      (endHeadTx_updates t).trans (onPort_updates _ _ _)
    obtain ⟨src, octets⟩ := tx
    cases src with
    | response =>
      simp only [completeSource]
      split
      · exact .resets i .command s
      · exact .updates ((ended s).trans (popResponse_updates _))
    | forward => exact .updates ((ended s).trans (dropUpHead_updates _))
    | event => exact .updates ((ended s).trans (eventComplete_updates _))
    | tally record again =>
      have counted (t : State) : Updates i t
          (if again then t.onSession fun q => { q with retransmissions := q.retransmissions + 1 } else t) :=
        .ite (fun _ => onSession_updates _ ⟨rfl, rfl, rfl, rfl, rfl, rfl, .inl⟩) fun _ => .refl i t
      cases record with
      | none => exact .updates ((ended s).trans (counted _))
      | some q => exact .updates (((Updates.one (.tallySent q again octets h)).trans (ended _)).trans (counted _))

theorem completeField_answers (s : State) : Answers i s (.next (completeField s)) := by
  unfold completeField
  split
  · split
    · exact .resets i .command s
    · exact .updates (((noteCopy_updates _ _ s).trans (dropDownHead_updates _)).trans (onPort_updates _ _ _))
  · exact .stays i s

end Sys2Proof.Machine
end


section
/-! PROOFS. The updates that metering a sample makes (chapters 4, 5 and 6), and what an update of one circuit leaves of it
whether or not the whole table is present. -/

namespace Sys2Proof.Machine

variable {i : Instr} {s : State}

/-! ### Reading a circuit after an update of one -/

/-- An update of a circuit is read back, or the table holds no such circuit and nothing has changed. -/
theorem circ_onCirc_or (c e : Fin 96) (f : CircuitState → CircuitState) (s : State) :
    (s.onCirc c f).circ e = s.circ e ∨ e = c ∧ (s.onCirc c f).circ e = f (s.circ c) := by
  by_cases he : e = c
  · subst he
    by_cases hlt : e.val < s.circuits.length
    · exact .inr ⟨rfl, by simp [State.circ, State.onCirc, List.getD_eq_getElem?_getD, hlt]⟩
    · exact .inl (by simp [State.circ, State.onCirc, List.getD_eq_getElem?_getD, hlt])
  · have hv : c.val ≠ e.val := fun x => he (Fin.ext x.symm)
    exact .inl (by simp [State.circ, State.onCirc, List.getD_eq_getElem?_getD, hv])

/-- What an update keeps of every circuit state, it keeps of every circuit. -/
theorem onCirc_keeps {β : Type} (g : CircuitState → β) {f : CircuitState → CircuitState} (keeps : ∀ x, g (f x) = g x)
    (c e : Fin 96) (s : State) : g ((s.onCirc c f).circ e) = g (s.circ e) := by
  obtain h | ⟨rfl, h⟩ := circ_onCirc_or c e f s <;> rw [h]
  exact keeps _

/-- What an update keeps of every direction state, it keeps of every direction. -/
theorem onDir_keeps {β : Type} (g : DirState → β) {f : DirState → DirState} (keeps : ∀ x, g (f x) = g x) (c e : Fin 96)
    (d a : Direction) (s : State) : g (((s.onDir c d f).circ e).dir a) = g ((s.circ e).dir a) := by
  refine onCirc_keeps (fun x => g (x.dir a)) (fun x => ?_) c e s
  rw [CircuitState.dir_onDir]
  split
  · next h => rw [keeps, h]
  · rfl

/-- An update of one direction leaves the park queue. -/
@[simp] theorem CircuitState.onDir_park (d : Direction) (f : DirState → DirState) (x : CircuitState) :
    (x.onDir d f).park = x.park := by cases d <;> rfl

@[simp] theorem circ_post (k : EventKind) (a : Half) (v : Word) (s : State) (c : Fin 96) :
    (post k a v s).circ c = s.circ c := rfl

@[simp] theorem circ_trigger (g : Triggers) (s : State) (c : Fin 96) : (trigger g s).circ c = s.circ c := by
  simp [State.circ]

@[simp] theorem circ_onScanCounters (f : ScanCounters → ScanCounters) (s : State) (c : Fin 96) :
    (s.onScanCounters f).circ c = s.circ c := rfl

/-! ### Tame updates -/

theorem DirTame.refl (x : DirState) : DirTame x x := ⟨rfl, id, id⟩

theorem CircuitTame.refl (x : CircuitState) : CircuitTame x x := ⟨List.suffix_rfl, .refl _, .refl _⟩

/-- An update that leaves both directions and the park queue is tame. -/
theorem CircuitTame.of_kept {x y : CircuitState} (park : y.park = x.park) (imp : y.imp = x.imp) (exp : y.exp = x.exp) :
    CircuitTame x y := ⟨park ▸ List.suffix_rfl, imp ▸ .refl _, exp ▸ .refl _⟩

/-- A tame update of one direction is a tame update of its circuit. -/
theorem CircuitTame.onDir {d : Direction} {f : DirState → DirState} {x : CircuitState} (h : DirTame (x.dir d) (f (x.dir d))) :
    CircuitTame x (x.onDir d f) := by
  cases d with
  | imp => exact ⟨List.suffix_rfl, h, .refl _⟩
  | exp => exact ⟨List.suffix_rfl, .refl _, h⟩

/-- An update that leaves the units and the energies of a direction is tame. -/
theorem DirTame.of_kept {x y : DirState} (inFlight : y.inFlight = x.inFlight) (pending : y.pending = x.pending)
    (accumulator : y.accumulator ≤ x.accumulator) (satLoss : y.satLoss = x.satLoss)
    (floorDiscarded : y.floorDiscarded ≤ x.floorDiscarded) : DirTame x y where
  inFlight := inFlight
  owed h := by simpa [DirState.owed, inFlight, pending] using h
  bounded h := by
    obtain ⟨ha, hs, hf⟩ := h
    exact ⟨accumulator.trans ha, satLoss ▸ hs, floorDiscarded.trans hf⟩

theorem addEnergy_tame (n : Nat) (x : DirState) : DirTame x (addEnergy n x) := by
  unfold addEnergy
  split
  · next fits => exact ⟨rfl, id, fun ⟨_, hs, hf⟩ => ⟨fits, hs, hf⟩⟩
  · exact ⟨rfl, id, fun ⟨_, _, hf⟩ => ⟨le_rfl, Nat.min_le_right _ _, hf⟩⟩

theorem discardEnergy_tame (x : DirState) : DirTame x (discardEnergy x) where
  inFlight := rfl
  owed := id
  bounded h := ⟨Nat.zero_le _, h.2.1, Nat.min_le_right _ _⟩

/-! ### A pair (R77, R89 to R101, R108 to R112) -/

/-- A tame update of a circuit by the command that meters a sample. -/
theorem onCirc_updates (exempt : keepsSampleAccount i = false) {c : Fin 96} {f : CircuitState → CircuitState}
    (tame : CircuitTame (s.circ c) (f (s.circ c))) : Updates i s (s.onCirc c f) :=
  .one (.circuit c f tame fun h => absurd h (by simp [exempt]))

theorem onDir_updates (exempt : keepsSampleAccount i = false) {c : Fin 96} {d : Direction} {f : DirState → DirState}
    (tame : DirTame ((s.circ c).dir d) (f ((s.circ c).dir d))) : Updates i s (s.onDir c d f) :=
  onCirc_updates exempt (.onDir tame)

theorem onBuilder_updates (f : Builder → Builder) (closings : (f s.builder).closings = s.builder.closings)
    (timer : (f s.builder).timer.isSome = s.builder.timer.isSome) : Updates i s (s.onBuilder f) :=
  .one (.builder f (closings ▸ List.Sublist.refl _) timer)

theorem trigger_updates (g : Triggers) (s : State) : Updates i s (trigger g s) := by
  refine .ite (fun _ => ?_) fun _ => onBuilder_updates _ rfl rfl
  split
  · exact onBuilder_updates _ rfl rfl
  · exact (onBuilder_updates _ rfl rfl).andThen (.places .builderTake rfl nofun nofun)

/-- A unit is generated below the owed cap (R95, R98). -/
theorem generateUnit_updates (exempt : keepsSampleAccount i = false) (r : CircuitRecord) {c : Fin 96} {d : Direction}
    (below : ((s.circ c).dir d).owed ≠ 16777215) : Updates i s (generateUnit r c d s) := by
  have generated : Updates i s (s.onDir c d fun x =>
      { x with pending := x.pending + 1, test := x.test || decide (1 < r.acceleration.toNat)
               holdover := x.holdover || s.sync.state == .holdover }) := by
    refine onDir_updates exempt ⟨rfl, fun h => ?_, id⟩
    simp only [DirState.owed] at h below ⊢
    omega
  exact .ite (fun _ => generated.trans (trigger_updates _ _)) fun _ => generated

theorem takeOverflow_updates (exempt : keepsSampleAccount i = false) {r : CircuitRecord} {c : Fin 96} {d : Direction}
    (free : capBlocks r d ((s.circ c).dir d) = false) : Updates i s (takeOverflow r c d s) := by
  have lowered : Updates i s (s.onDir c d fun x => { x with accumulator := x.accumulator - effectiveQuantum r }) :=
    onDir_updates exempt (.of_kept rfl rfl (Nat.sub_le _ _) rfl le_rfl)
  have counted (n : Nat) (t : State) : Updates i t (t.onDir c d fun x => { x with partialCount := n }) :=
    onDir_updates exempt (.of_kept rfl rfl le_rfl rfl le_rfl)
  refine .ite (fun _ => (lowered.trans (counted 0 _)).trans ?_) fun _ => lowered.trans (counted _ _)
  refine .ite (fun selected => generateUnit_updates exempt r ?_) fun _ =>
    onDir_updates exempt (.of_kept rfl rfl le_rfl rfl le_rfl)
  rw [onDir_keeps DirState.owed, onDir_keeps DirState.owed]
  · simpa [capBlocks, selected] using free
  · exact fun _ => rfl
  · exact fun _ => rfl

theorem overflowCheck_updates (exempt : keepsSampleAccount i = false) (r : CircuitRecord) (c : Fin 96) (d : Direction)
    (s : State) : Updates i s (overflowCheck r c d s).1 := by
  unfold overflowCheck
  dsimp only
  split
  · split
    · exact (onDir_updates exempt (.of_kept rfl rfl le_rfl rfl le_rfl)).trans (post_updates _ _ _ _)
    · next free => exact takeOverflow_updates exempt (by simpa using free)
  · exact .refl i s

theorem floorAtPair_updates (exempt : keepsSampleAccount i = false) (r : CircuitRecord) (c : Fin 96)
    (overflow : Option Direction) (s : State) : Updates i s (floorAtPair r c overflow s) := by
  have moved (a : Nat) (f : FloorState) (t : State) : Updates i t (t.onCirc c fun x => { x with floorAcc := a, floor := f }) :=
    onCirc_updates exempt (.of_kept rfl rfl rfl)
  refine .ite (fun _ => ?_) fun _ => .refl i s
  cases overflow with
  | some d => exact .ite (fun _ => (moved 0 .active s).trans (post_updates _ _ _ _)) fun _ => moved 0 .active s
  | none =>
    have stepped (n : Nat) : Updates i s (s.onCirc c fun x => { x with floorAcc := n }) :=
      onCirc_updates exempt (.of_kept rfl rfl rfl)
    have discarded (t : State) : Updates i t (t.onCirc c fun y =>
        { y with imp := discardEnergy y.imp, exp := discardEnergy y.exp, floorAcc := 0, floor := .quiet }) :=
      onCirc_updates exempt ⟨List.suffix_rfl, discardEnergy_tame _, discardEnergy_tame _⟩
    exact .ite (fun _ => stepped _) fun _ => (stepped _).trans
      (.ite (fun _ => (discarded _).trans (post_updates _ _ _ _)) fun _ => discarded _)

theorem formPair_updates (exempt : keepsSampleAccount i = false) (p : PlanContents) (c : Fin 96) (a v : Half) (s : State) :
    Updates i s (formPair p c a v s) := by
  have counted (f : CircuitState → CircuitState) (h : CircuitTame (s.circ c) (f (s.circ c))) : Updates i s (s.onCirc c f) :=
    onCirc_updates exempt h
  refine .ite (fun _ => ?_) fun _ => counted _ (.of_kept rfl rfl rfl)
  have paired := counted (fun x => { x with paired := x.paired + 1 }) (.of_kept rfl rfl rfl)
  unfold accumulatePair
  dsimp only
  split
  · exact paired.trans (floorAtPair_updates exempt _ _ _ _)
  · exact ((paired.trans (onDir_updates exempt (addEnergy_tame _ _))).trans (overflowCheck_updates exempt _ _ _ _)).trans
      (floorAtPair_updates exempt _ _ _ _)

/-! ### A pair leaves the park queues -/

theorem generateUnit_park (r : CircuitRecord) (c e : Fin 96) (d : Direction) (s : State) :
    ((generateUnit r c d s).circ e).park = (s.circ e).park := by
  unfold generateUnit
  dsimp only
  split <;> simp [State.onDir, onCirc_keeps CircuitState.park]

theorem takeOverflow_park (r : CircuitRecord) (c e : Fin 96) (d : Direction) (s : State) :
    ((takeOverflow r c d s).circ e).park = (s.circ e).park := by
  have dir (f : DirState → DirState) (t : State) : ((t.onDir c d f).circ e).park = (t.circ e).park :=
    onCirc_keeps CircuitState.park (CircuitState.onDir_park d f) c e t
  unfold takeOverflow unitDue
  dsimp only
  split
  · split
    · rw [generateUnit_park, dir, dir]
    · rw [dir, dir, dir]
  · rw [dir, dir]

theorem overflowCheck_park (r : CircuitRecord) (c e : Fin 96) (d : Direction) (s : State) :
    ((overflowCheck r c d s).1.circ e).park = (s.circ e).park := by
  unfold overflowCheck
  dsimp only
  split
  · split
    · exact onCirc_keeps CircuitState.park (CircuitState.onDir_park d _) c e s
    · exact takeOverflow_park r c e d s
  · rfl

theorem floorAtPair_park (r : CircuitRecord) (c e : Fin 96) (o : Option Direction) (s : State) :
    ((floorAtPair r c o s).circ e).park = (s.circ e).park := by
  have circ (f : CircuitState → CircuitState) (h : ∀ x, (f x).park = x.park) (t : State) :
      ((t.onCirc c f).circ e).park = (t.circ e).park := onCirc_keeps CircuitState.park h c e t
  unfold floorAtPair floorRestart floorStep quietDiscard
  dsimp only
  (repeat' split) <;> simp [circ]

theorem formPair_park (p : PlanContents) (c e : Fin 96) (a v : Half) (s : State) :
    ((formPair p c a v s).circ e).park = (s.circ e).park := by
  have circ (f : CircuitState → CircuitState) (h : ∀ x, (f x).park = x.park) (t : State) :
      ((t.onCirc c f).circ e).park = (t.circ e).park := onCirc_keeps CircuitState.park h c e t
  unfold formPair accumulatePair
  dsimp only
  split
  · split
    · simp [floorAtPair_park, circ]
    · simp [floorAtPair_park, overflowCheck_park, State.onDir, circ]
  · simp [circ]

/-! ### Park service (R88) -/

theorem countMiss_updates (exempt : keepsSampleAccount i = false) (c : Fin 96) (s : State) : Updates i s (countMiss c s) :=
  onCirc_updates exempt (.of_kept rfl rfl rfl)

/-- A park queue is served from its head: what is left to serve is what the queue still holds. -/
theorem servePark_updates (exempt : keepsSampleAccount i = false) (p : PlanContents) (ring : List RingSample) (u : Half)
    (c : Fin 96) (l : List Parked) (s : State) (suffix : l <:+ (s.circ c).park) :
    Updates i s (servePark p ring u c l s) := by
  induction l generalizing s with
  | nil => exact .refl i s
  | cons h rest ih =>
    have restSuffix : rest <:+ (s.circ c).park := (List.suffix_cons h rest).trans suffix
    have popped : Updates i s (s.onCirc c fun x => { x with park := rest }) :=
      onCirc_updates exempt ⟨restSuffix, .refl _, .refl _⟩
    have left : rest <:+ ((s.onCirc c fun x => { x with park := rest }).circ c).park := by
      obtain hkept | ⟨_, hset⟩ := circ_onCirc_or c c (fun x => { x with park := rest }) s
      · rwa [hkept]
      · rw [hset]
    refine .ite (fun _ => .refl i s) fun _ => ?_
    dsimp only
    split
    · refine (popped.trans (formPair_updates exempt _ _ _ _ _)).trans (ih _ ?_)
      rwa [formPair_park]
    · refine (popped.trans (countMiss_updates exempt c _)).trans (ih _ ?_)
      rwa [countMiss, onCirc_keeps CircuitState.park]
      exact fun _ => rfl

theorem parkService_updates (exempt : keepsSampleAccount i = false) (p : PlanContents) (r : Fin 16) (u : Half) (s : State) :
    Updates i s (parkService p r u s) := by
  unfold parkService
  generalize servedCircuits p r = l
  induction l generalizing s with
  | nil => exact .refl i s
  | cons c rest ih => exact (servePark_updates exempt _ _ _ _ _ s List.suffix_rfl).trans (ih _)

/-! ### Voltage and current samples (R66, R86) -/

/-- An update of one reference that keeps its ring. -/
theorem onRef_updates (r : Fin 16) (f : RefState → RefState) (ring : ∀ q, (f q).ring = q.ring) (s : State) :
    Updates i s (s.onRef r f) := by
  refine .one (.references _ (by simp) fun y hy => ?_)
  obtain hmem | rfl := List.mem_or_eq_of_mem_set hy
  · exact .inr ⟨y, hmem, rfl⟩
  · rw [ring]
    unfold State.ref
    rw [List.getD_eq_getElem?_getD]
    cases h : s.refs[r.val]? with
    | none => exact .inl rfl
    | some q => exact .inr ⟨q, List.mem_of_getElem? h, rfl⟩

theorem censusSees_updates (p : PlanContents) (r : Fin 16) (prior : Option RingSample) (x : RingSample) (s : State) :
    Updates i s (censusSees p r prior x s) := by
  refine .ite (fun _ => ?_) fun _ => .refl i s
  dsimp only
  have seen (k : Census) : Updates i s (s.onRef r fun q =>
      { q with census := k, gaps := if isGap prior x.scan then q.gaps + 1 else q.gaps }) :=
    onRef_updates r _ (by simp) s
  have posted (t : State) (o : Option EventKind) (v : Word) : Updates i t
      (match o with
      | none => t
      | some e => post e (BitVec.ofNat 16 r.val) v t) := by
    cases o with
    | none => exact .refl i t
    | some e => exact post_updates _ _ _ t
  exact .ite (fun _ => (((seen _).trans (posted _ _ _)).trans (onRef_updates r _ (by simp) _)).trans
    (post_updates _ _ _ _)) fun _ => (seen _).trans (posted _ _ _)

theorem ringLookup_isSome_iff (ring : List RingSample) (t : Half) :
    (ringLookup ring t).isSome = true ↔ ∃ y ∈ ring, y.scan = t := by
  simp [ringLookup]

theorem voltage_updates (exempt : keepsSampleAccount i = false) (p : PlanContents) (r : Fin 16) (x : RingSample)
    (s : State) : Updates i s (voltage p r x s) := by
  refine .ite (fun _ => onRef_updates r _ (by simp) s) fun absent =>
    .ite (fun _ => onRef_updates r _ (by simp) s) fun _ => ?_
  have fresh : ∀ y ∈ (s.ref r).ring, y.scan ≠ x.scan := by
    intro y hy heq
    exact absent ((ringLookup_isSome_iff _ _).mpr ⟨y, hy, heq⟩)
  have stored := Updates.one (i := i) (.stores r x fresh)
  exact .trans (.ite (fun _ => stored.trans (censusSees_updates _ _ _ _ _)) fun _ => stored)
    (parkService_updates exempt _ _ _ _)

theorem sampleDone_updates (d : DueSample) (s : State) : Updates i s (sampleDone d s) :=
  .one (.engine _ id rfl fun _ => by cases h : s.engine.metering <;> simp [scanAccount, h])

theorem voltageSample_answers (s : State) : Answers .voltageSample s (execVoltageSample s) := by
  unfold execVoltageSample
  split
  · exact .stays _ s
  · split
    · exact .updates ((voltage_updates rfl _ _ _ s).trans (sampleDone_updates _ _))
    all_goals exact .stays _ s

theorem current_updates (p : PlanContents) (c : Fin 96) (t v : Half) (s : State) :
    Updates .currentSample s (current p c t v s) := by
  unfold current
  dsimp only
  split
  · exact formPair_updates rfl _ _ _ _ s
  · refine .ite (fun _ => onCirc_updates rfl (.of_kept rfl rfl rfl)) fun absent =>
      .ite (fun _ => .one (.parks c _ rfl ?_)) fun _ => countMiss_updates rfl c s
    simpa using absent

theorem currentSample_answers (s : State) : Answers .currentSample s (execCurrentSample s) := by
  unfold execCurrentSample
  split
  · exact .stays _ s
  · split
    · exact .updates ((current_updates _ _ _ _ s).trans (sampleDone_updates _ _))
    all_goals exact .stays _ s

end Sys2Proof.Machine
end


section
/-! PROOFS. The updates that claims, commands, timers and the part controller make (chapters 3, 7, 8, 9 and 11), and with them
every command of the block. -/

namespace Sys2Proof.Machine

variable {i : Instr} {s : State}

/-! ### The agent's answers (R159, R161) -/

theorem completeAs_updates (resets : Bool) (st : Status) (results : List Byte)
    (free : s.agent.held ≠ some .meteringClear) : Updates i s (completeAs resets st results s) := by
  unfold completeAs
  split
  · exact .refl i s
  · refine .one (.agent _ ?_ ?_ (.inr free)) <;> intro h <;> split
    · exact tail_length_le _ h
    · exact h
    · next room => simpa using room
    · exact h

theorem complete_updates (st : Status) (results : List Byte) (free : s.agent.held ≠ some .meteringClear) :
    Updates i s (complete st results s) := completeAs_updates false st results free

theorem completeHeld_updates {h : Held} (other : h ≠ .meteringClear) (st : Status) (results : List Byte) (s : State) :
    Updates i s (completeHeld h st results s) :=
  .ite (fun held => complete_updates st results (by simpa [held] using other)) fun _ => .refl i s

/-- A command that begins execution finds nothing held (R159). -/
theorem held_of_beginning {c : Command} (h : beginning s = some c) : s.agent.held = none := (beginning_some h).1

theorem free_of_beginning {c : Command} (h : beginning s = some c) : s.agent.held ≠ some .meteringClear := by
  simp [held_of_beginning h]

theorem refuseState_updates {c : Command} (h : beginning s = some c) : Updates i s (refuseState s) :=
  complete_updates _ _ (free_of_beginning h)

theorem hold_updates (h : Held) (free : s.agent.held ≠ some .meteringClear) : Updates i s (hold h s) :=
  .one (.agent _ id id (.inr free))

/-! ### Claims at a frame boundary (R35) -/

/-- A claim that names no units leaves the order. -/
theorem dropClaim_updates {k : Claim} (next : nextClaim s = some k) (units : claimUnits k = [])
    (clear : k ≠ .meteringClear) : Updates i s (dropClaim s) := .one (.takesClaim k next units clear)

theorem flushPark_tame (x : CircuitState) : CircuitTame x (flushPark x) := ⟨List.nil_suffix, .refl _, .refl _⟩

/-- Flushed samples go from the park queue to their counter (R25). -/
theorem flushPark_account (x : CircuitState) : sampleAccount (flushPark x) = sampleAccount x := by
  simp only [sampleAccount, flushPark, List.length_nil]
  generalize BitVec.ofNat 32 x.park.length = n
  simp only [BitVec.add_zero]
  ac_rfl

/-- An update of every reference by its index that keeps its ring or empties it. -/
theorem mapIdx_updates (f : Nat → RefState → RefState) (rings : ∀ n q, (f n q).ring = [] ∨ (f n q).ring = q.ring)
    (s : State) : Updates i s (s.onRefs fun l => l.mapIdx f) := by
  refine .one (.references _ List.length_mapIdx fun y hy => ?_)
  obtain ⟨n, hn, rfl⟩ := List.mem_mapIdx.mp hy
  exact (rings n _).imp_right fun h => ⟨_, List.getElem_mem hn, h⟩

theorem epochFlush_answers (s : State) : Answers .epochFlush s (execEpochFlush s) := by
  unfold execEpochFlush
  split
  · next next =>
    refine .updates (((dropClaim_updates next rfl nofun).andThen (.circuits flushPark flushPark_tame fun _ x =>
      flushPark_account x)).trans (mapIdx_updates _ (fun _ _ => .inl rfl) _))
  · exact .stays _ s

/-! ### Commit (R53 to R58) -/

/-- A commit that is not refused finds its closing set idle, out of the closing list, and with places for it (R54). -/
theorem commitRefusal_none {set : List (Fin 96)} (h : commitRefusal set s = none) :
    (∀ c ∈ set, (s.circ c).imp.inFlight = 0 ∧ (s.circ c).exp.inFlight = 0) ∧
      (∀ c ∈ set, ∀ k ∈ s.builder.closings, k.circuit ≠ c) ∧ set.length ≤ 8 - s.builder.closings.length := by
  unfold commitRefusal at h
  split at h
  · cases h
  · next idle =>
    split at h
    · cases h
    · next free =>
      rw [List.find?_eq_none] at idle free
      refine ⟨fun c hc => ?_, fun c hc => by simpa using free c hc, ?_⟩
      · simpa using idle c hc
      · simpa using h

@[simp] theorem closeCircuit_closings (p : PlanContents) (c : Fin 96) (s : State) :
    (closeCircuit p s c).builder.closings =
      s.builder.closings ++ [closingOf (circuitRecord p c) c (s.circ c)] := by
  simp [closeCircuit]

theorem circ_closeCircuit_or (p : PlanContents) (c e : Fin 96) (s : State) :
    (closeCircuit p s c).circ e = s.circ e ∨ e = c ∧ (closeCircuit p s c).circ e = .cleared := by
  simpa [closeCircuit, State.circ] using circ_onCirc_or c e (fun _ => .cleared) (s.onBuilder fun b =>
    { b with closings := b.closings ++ [closingOf (circuitRecord p c) c (s.circ c)] })

theorem closeCircuits_updates (p : PlanContents) (set : List (Fin 96)) (s : State) (distinct : set.Nodup)
    (idle : ∀ c ∈ set, (s.circ c).imp.inFlight = 0 ∧ (s.circ c).exp.inFlight = 0)
    (free : ∀ c ∈ set, ∀ k ∈ s.builder.closings, k.circuit ≠ c) (room : s.builder.closings.length + set.length ≤ 8) :
    Updates .commitBoundary s (set.foldl (closeCircuit p) s) := by
  induction set generalizing s with
  | nil => exact .refl _ s
  | cons c rest ih =>
    obtain ⟨hc, distinct⟩ := List.nodup_cons.mp distinct
    rw [List.length_cons] at room
    refine .trans (.one (.closesCircuit p c rfl (idle c List.mem_cons_self) (free c List.mem_cons_self) (by omega)))
      (ih _ distinct (fun e he => ?_) (fun e he k hk => ?_) ?_)
    · obtain h | ⟨_, h⟩ := circ_closeCircuit_or p c e s <;> rw [h]
      · exact idle e (List.mem_cons_of_mem c he)
      · exact ⟨rfl, rfl⟩
    · rw [closeCircuit_closings, List.mem_append, List.mem_singleton] at hk
      obtain hk | rfl := hk
      · exact free e (List.mem_cons_of_mem c he) k hk
      · rintro rfl
        exact hc he
    · rw [closeCircuit_closings, List.length_append, List.length_singleton]
      omega

theorem adjustCircuit_tame (old new : PlanContents) (c : Fin 96) (x : CircuitState) :
    CircuitTame x (adjustCircuit old new c x) := by
  unfold adjustCircuit
  dsimp only
  have kept (y : CircuitState) (park : y.park <:+ x.park) (imp : y.imp = x.imp) (exp : y.exp = x.exp) (n : Nat)
      (sel : Select) : CircuitTame x { y with
        imp := unblockUnselected sel .imp (lowerPartial n y.imp), exp := unblockUnselected sel .exp (lowerPartial n y.exp) } :=
    ⟨park, imp ▸ .of_kept rfl rfl le_rfl rfl le_rfl, exp ▸ .of_kept rfl rfl le_rfl rfl le_rfl⟩
  have flushed := kept (flushPark x) List.nil_suffix rfl rfl
  have same := kept x List.suffix_rfl rfl rfl
  have floored (y : CircuitState) (h : CircuitTame x y) : CircuitTame x { y with floor := .active, floorAcc := 0 } :=
    ⟨h.park, h.imp, h.exp⟩
  split <;> split
  · exact floored _ (flushed _ _)
  · exact floored _ (same _ _)
  · exact flushed _ _
  · exact same _ _

theorem clearFloor_tame (x : CircuitState) : CircuitTame x (clearFloor x) :=
  ⟨List.suffix_rfl, .of_kept rfl rfl le_rfl rfl (Nat.zero_le _), .of_kept rfl rfl le_rfl rfl (Nat.zero_le _)⟩

theorem commitCircuit_updates (old new : PlanContents) (c : Fin 96) (s : State) :
    Updates .commitBoundary s (commitCircuit old new s c) := by
  have posted (d : Direction) (b : Bool) (t : State) :
      Updates .commitBoundary t (if b then postUnblocked c d t else t) :=
    .ite (fun _ => post_updates _ _ _ t) fun _ => .refl _ t
  exact .ite (fun _ => ((onCirc_updates rfl (adjustCircuit_tame old new c _)).trans (posted _ _ _)).trans (posted _ _ _))
    fun _ => .ite (fun _ => onCirc_updates rfl (clearFloor_tame _)) fun _ => .refl _ s

/-- What every step of a fold does by updates, the fold does. -/
theorem foldl_updates {α : Type} (f : State → α → State) (h : ∀ s x, Updates i s (f s x)) (l : List α) (s : State) :
    Updates i s (l.foldl f s) := by
  induction l generalizing s with
  | nil => exact .refl i s
  | cons x xs ih => exact (h s x).trans (ih _)

theorem commitRef_ring (old new : PlanContents) (r : Fin 16) (q : RefState) :
    (commitRef old new r q).ring = [] ∨ (commitRef old new r q).ring = q.ring := by
  unfold commitRef
  dsimp only
  (repeat' split) <;> simp

theorem commitPlan_updates (check : Word) {s : State}
    (accepted : commitRefusal (closingSet s.plan.active.contents s.plan.shadow.contents) s = none) :
    Updates .commitBoundary s (commitPlan check s) := by
  obtain ⟨idle, free, room⟩ := commitRefusal_none accepted
  have distinct : (closingSet s.plan.active.contents s.plan.shadow.contents).Nodup :=
    (closingSet_ascends _ _).imp fun h => ne_of_lt h
  have closed : Updates .commitBoundary s
      ((closingSet s.plan.active.contents s.plan.shadow.contents).foldl (closeCircuit s.plan.active.contents) s) := by
    by_cases hset : closingSet s.plan.active.contents s.plan.shadow.contents = []
    · rw [hset]
      exact .refl _ s
    · have := List.length_pos_iff.mpr hset
      exact closeCircuits_updates _ _ s distinct idle free (by omega)
  have swapped := closed.andThen (.plan (swapBanks check) (fun h => ⟨h.2, h.1⟩) Iff.rfl)
  have referenced := swapped.trans (mapIdx_updates _ (fun n q => commitRef_ring s.plan.active.contents
    s.plan.shadow.contents (Fin.ofNat 16 n) q) _)
  have kept := referenced.trans (foldl_updates _ (fun t c => commitCircuit_updates s.plan.active.contents
    s.plan.shadow.contents c t) allCircuits _)
  unfold commitPlan
  exact ((kept.andThen (.commitsPart s.plan.shadow.contents rfl)).trans (post_updates _ _ _ _)).trans
    (completeHeld_updates (by simp) _ _ _)

theorem commitBoundary_answers (s : State) : Answers .commitBoundary s (execCommitBoundary s) := by
  unfold execCommitBoundary
  split
  · next check next =>
    have dropped : Updates .commitBoundary s (dropClaim s) := dropClaim_updates next rfl nofun
    unfold takeCommit
    split
    · exact .updates (dropped.trans (completeHeld_updates (by simp) _ _ _))
    · next accepted => exact .updates (dropped.trans (commitPlan_updates check accepted))
  · exact .stays _ s

/-! ### Builder take, ack release, session restore, reads and METERING_CLEAR -/

theorem buildEmpty_updates (accepts : builderAccepts s = true) : Updates i s (buildEmpty s) :=
  ((Updates.one (.appends accepts)).trans (onBuilder_updates _ rfl rfl)).trans (completeHeld_updates (by simp) _ _ _)

/-- A run that placed entries: its record is composed, and then the REPORT_FLUSH held for it is answered. -/
theorem buildFull_eq (run : Run) (s : State) :
    buildFull run s = completeFlush (some (s.session.next, run.entries.length)) (composed run s) := rfl

theorem builderTake_answers (s : State) : Answers .builderTake s (execBuilderTake s) := by
  unfold execBuilderTake
  split
  · next next =>
    refine .updates (((dropClaim_updates next rfl nofun).trans
      (onBuilder_updates (fun b => { b with waiting := none }) rfl rfl)).trans (.ite (fun accepts => ?_) fun _ =>
      (onBuilder_updates _ rfl rfl).trans (completeHeld_updates (by simp) _ _ _)))
    refine .ite (fun _ => .ite (fun _ => buildEmpty_updates accepts) fun _ => .ite (fun _ =>
      .ite (fun _ => buildEmpty_updates accepts) fun _ => onBuilder_updates _ rfl rfl) fun _ => .refl _ _) fun _ => ?_
    rw [buildFull_eq]
    exact .trans (.one (.records accepts)) (completeHeld_updates (by simp) _ _ _)
  · exact .stays _ s

theorem ackRelease_answers (s : State) : Answers .ackRelease s (execAckRelease s) := by
  unfold execAckRelease
  split
  · next us next => exact .updates (.one (.releases us next))
  · exact .stays _ s

theorem completeClose_updates (s : State) : Updates i s (completeClose s) := by
  unfold completeClose
  split
  · next held => exact complete_updates _ _ (by simp [held])
  · exact .refl i s

theorem sessionRestore_answers (s : State) : Answers .sessionRestore s (execSessionRestore s) := by
  unfold execSessionRestore
  split
  · next us next => exact .updates (.trans (.one (.restores us next)) (completeClose_updates _))
  · exact .stays _ s

theorem circuitReadClaim_answers (s : State) : Answers .circuitReadClaim s (execCircuitReadClaim s) := by
  unfold execCircuitReadClaim
  split
  · next next => exact .updates ((dropClaim_updates next rfl nofun).trans (completeHeld_updates (by simp) _ _ _))
  · exact .stays _ s

theorem referenceReadClaim_answers (s : State) : Answers .referenceReadClaim s (execReferenceReadClaim s) := by
  unfold execReferenceReadClaim
  split
  · next next => exact .updates ((dropClaim_updates next rfl nofun).trans (completeHeld_updates (by simp) _ _ _))
  · exact .stays _ s

theorem meteringClearClaim_answers (s : State) : Answers .meteringClearClaim s (execMeteringClearClaim s) := by
  unfold execMeteringClearClaim
  split
  · next next => exact .updates (.one (.clears next rfl))
  · exact .stays _ s

/-! ### Commands (chapter 9) -/

theorem Answers.ofBegins {k : CommandCode} {body : Command → State → State}
    (h : ∀ c, beginning s = some c → Answers i s (.next (body c s))) : Answers i s (begins k body s) := by
  unfold begins
  split
  · next c hc => exact .ofOccurs fun _ => h c hc
  · exact .stays i s

/-- A command that passes its checks makes its owner's updates; one that fails a check is answered. -/
theorem checked_updates {k : CommandCode} {owner : List Byte → State → State} {c : Command} (hc : beginning s = some c)
    (h : s.part.state ≠ .defect ∨ k = .statusRead → Updates i s (owner c.args s)) :
    Updates i s (checked k owner c s) := by
  refine .ite (fun _ => complete_updates _ _ (free_of_beginning hc)) fun _ =>
    .ite (fun _ => refuseState_updates hc) fun awake => ?_
  split
  · exact complete_updates _ _ (free_of_beginning hc)
  · exact h (by rwa [not_and_or, not_not] at awake)

theorem answered_answers {k : CommandCode} {owner : List Byte → State → State}
    (h : ∀ c, beginning s = some c → (s.part.state ≠ .defect ∨ k = .statusRead) → Updates i s (owner c.args s)) :
    Answers i s (answered k owner s) :=
  .ofBegins fun c hc => .updates (checked_updates hc (h c hc))

theorem unknownCommand_answers (s : State) : Answers i s (execUnknownCommand s) := by
  unfold execUnknownCommand
  split
  · next c hc => exact .ofOccurs fun _ => .updates (complete_updates _ _ (free_of_beginning hc))
  · exact .stays i s

theorem statusRead_answers (s : State) : Answers i s (execStatusRead s) :=
  answered_answers fun _ hc _ => complete_updates _ _ (free_of_beginning hc)

/-- Clearing every counter, block by block (R180). -/
theorem clearCounters_updates (s : State) : Updates .countersRead s (clearCounters s) := by
  have circuits := Updates.one (i := .countersRead) (s := s) (.circuits (fun x =>
    { x with paired := 0, missed := 0, unqualified := 0, flushed := 0, duplicate := 0 })
    (fun _ => .of_kept rfl rfl rfl) nofun)
  have references := circuits.andThen (.references (fun l => l.map fun q =>
    { q with stored := 0, duplicates := 0, late := 0, gaps := 0 }) (List.length_map _) fun y hy => by
      obtain ⟨q, hq, rfl⟩ := List.mem_map.mp hy
      exact .inr ⟨q, hq, rfl⟩)
  have links := references.trans (onLinks_updates (fun l =>
    { l with field := clearPort l.field, head := clearPort l.head }) rfl rfl rfl)
  have sync := links.andThen (.sync (fun y => { y with taken := 0, ignored := 0 }) id)
  have engine := sync.andThen (.engine (fun e => { e with counters := .zero }) id rfl nofun)
  have plan := engine.andThen (.plan (fun p => { p with passes := 0 }) id Iff.rfl)
  have builder := plan.trans (onBuilder_updates (fun b => { b with built := 0, emptyBuilt := 0, dropped := 0 }) rfl rfl)
  have session := builder.trans (onSession_updates (fun q => { q with
    acksTaken := 0, acksStale := 0, acksStray := 0, retransmitTimeouts := 0, retransmissions := 0, acknowledged := 0
    restored := 0 }) ⟨rfl, rfl, rfl, rfl, rfl, rfl, .inl⟩)
  have agent := session.trans (onAgent_updates (fun a => { a with
    malformed := 0, overruns := 0, duplicates := 0, repeated := 0, broadcastsIgnored := 0 }) rfl rfl rfl)
  exact agent.andThen (.events (fun e => { e with lostCounter := 0 }) id)

theorem countersRead_answers (s : State) : Answers .countersRead s (execCountersRead s) := by
  refine answered_answers fun c hc _ => ?_
  unfold countersRead
  split
  · exact (clearCounters_updates s).trans (complete_updates _ _ (by simpa [clearCounters] using free_of_beginning hc))
  · exact complete_updates _ _ (free_of_beginning hc)

/-! ### Loading the shadow bank (R43 to R49) -/

/-- An update of the shadow bank that keeps its shape, answered. -/
theorem shadow_updates {c : Command} (hc : beginning s = some c) (f : PlanContents → PlanContents)
    (wf : contentsWf s.plan.shadow.contents = true → contentsWf (f s.plan.shadow.contents) = true) (st : Status)
    (results : List Byte) : Updates i s (complete st results (onShadow f s)) :=
  .trans (.one (.plan _ (fun h => ⟨h.1, wf h.2⟩) Iff.rfl)) (complete_updates _ _ (free_of_beginning hc))

theorem emptyContents_wf : contentsWf emptyContents = true := by decide

theorem planClear_answers (s : State) : Answers i s (execPlanClear s) :=
  answered_answers fun _ hc _ => .trans
    (.one (.plan (fun p => { p with shadow := emptyBank }) (fun h => ⟨h.1, emptyContents_wf⟩) Iff.rfl))
    (complete_updates _ _ (free_of_beginning hc))

theorem planCopy_answers (s : State) : Answers i s (execPlanCopy s) :=
  answered_answers fun _ hc _ => .trans
    (.one (.plan (fun p => { p with shadow := p.active }) (fun h => ⟨h.1, h.1⟩) Iff.rfl))
    (complete_updates _ _ (free_of_beginning hc))

theorem contentsWf_iff (p : PlanContents) : contentsWf p = true ↔
    p.streams.length ≤ 256 ∧ keysAscend p.streams = true ∧ p.circuits.length = 96 ∧ p.references.length = 16 := by
  simp [contentsWf, and_assoc]

end Sys2Proof.Machine
end


section
/-! PROOFS. The stream list (R38, R45, R46): entries join it in key order, replace the entry of their key, and leave it; and
with it the updates of the commands that load the shadow bank. -/

namespace Sys2Proof.Machine

/-! ### Ascending keys (R38) -/

/-- Neighbours ascend exactly when any two entries do. -/
theorem keysAscend_iff (l : List StreamEntry) : keysAscend l = true ↔ l.Pairwise fun a b => entryKey a < entryKey b := by
  induction l with
  | nil => simp [keysAscend]
  | cons a l ih =>
    cases l with
    | nil => simp [keysAscend]
    | cons b rest =>
      rw [keysAscend, Bool.and_eq_true, decide_eq_true_eq, ih, List.pairwise_cons (a := a)]
      refine and_congr_left fun h => ⟨fun hab x hx => ?_, fun hall => hall b List.mem_cons_self⟩
      obtain rfl | hx := List.mem_cons.mp hx
      · exact hab
      · exact hab.trans ((List.pairwise_cons.mp h).1 x hx)

/-- The list holds an entry with the key. -/
abbrev HasKey (l : List StreamEntry) (k : Nat) : Prop := ∃ x ∈ l, entryKey x = k

theorem lookupStream_isNone_iff (l : List StreamEntry) (k : Nat) : (lookupStream l k).isNone = true ↔ ¬ HasKey l k := by
  simp [lookupStream, HasKey]

theorem lookupStream_isSome_iff (l : List StreamEntry) (k : Nat) : (lookupStream l k).isSome = true ↔ HasKey l k := by
  simp [lookupStream, HasKey]

/-! ### An entry joins (R45) -/

/-- In a list in key order, what stands after an insertion: the new entry, and every old one of another key. -/
theorem mem_insertStream {e x : StreamEntry} {l : List StreamEntry} (ascends : keysAscend l = true) :
    x ∈ insertStream e l ↔ x = e ∨ x ∈ l ∧ entryKey e ≠ entryKey x := by
  rw [keysAscend_iff] at ascends
  induction l with
  | nil => simp [insertStream]
  | cons y ys ih =>
    obtain ⟨hy, hys⟩ := List.pairwise_cons.mp ascends
    unfold insertStream
    split
    · next hlt =>
      have other (hx : x ∈ y :: ys) : entryKey e ≠ entryKey x := by
        obtain rfl | hx := List.mem_cons.mp hx
        · exact hlt.ne
        · exact (hlt.trans (hy x hx)).ne
      rw [List.mem_cons, and_iff_left_of_imp other]
    · split
      · next heq =>
        have other (hx : x ∈ ys) : entryKey e ≠ entryKey x := heq ▸ (hy x hx).ne
        rw [List.mem_cons, List.mem_cons]
        refine or_congr_right ⟨fun hx => ⟨.inr hx, other hx⟩, fun ⟨hx, hne⟩ => hx.resolve_left ?_⟩
        rintro rfl
        exact hne heq
      · next hne =>
        rw [List.mem_cons, ih hys, List.mem_cons]
        refine ⟨?_, ?_⟩
        · rintro (rfl | rfl | ⟨hx, h⟩)
          · exact .inr ⟨.inl rfl, hne⟩
          · exact .inl rfl
          · exact .inr ⟨.inr hx, h⟩
        · rintro (rfl | ⟨rfl | hx, h⟩)
          · exact .inr (.inl rfl)
          · exact .inl rfl
          · exact .inr (.inr ⟨hx, h⟩)

theorem keysAscend_insertStream (e : StreamEntry) {l : List StreamEntry} (ascends : keysAscend l = true) :
    keysAscend (insertStream e l) = true := by
  induction l with
  | nil => rfl
  | cons y ys ih =>
    have ascends' := ascends
    rw [keysAscend_iff, List.pairwise_cons, ← keysAscend_iff] at ascends'
    obtain ⟨hy, hys⟩ := ascends'
    unfold insertStream
    split
    · next hlt =>
      rw [keysAscend_iff, List.pairwise_cons]
      refine ⟨fun x hx => ?_, (keysAscend_iff _).mp ascends⟩
      obtain rfl | hx := List.mem_cons.mp hx
      · exact hlt
      · exact hlt.trans (hy x hx)
    · split
      · next heq =>
        rw [keysAscend_iff, List.pairwise_cons]
        exact ⟨fun x hx => heq ▸ hy x hx, (keysAscend_iff _).mp hys⟩
      · next hnlt hne =>
        rw [keysAscend_iff, List.pairwise_cons]
        refine ⟨fun x hx => ?_, (keysAscend_iff _).mp (ih hys)⟩
        obtain rfl | ⟨hx, _⟩ := (mem_insertStream hys).mp hx
        · omega
        · exact hy x hx

/-- Which keys stand after an insertion. -/
theorem hasKey_insertStream {e : StreamEntry} {l : List StreamEntry} (ascends : keysAscend l = true) (k : Nat) :
    HasKey (insertStream e l) k ↔ k = entryKey e ∨ HasKey l k := by
  simp only [HasKey, mem_insertStream ascends]
  refine ⟨?_, ?_⟩
  · rintro ⟨x, rfl | ⟨hx, _⟩, rfl⟩
    · exact .inl rfl
    · exact .inr ⟨x, hx, rfl⟩
  · rintro (rfl | ⟨x, hx, rfl⟩)
    · exact ⟨e, .inl rfl, rfl⟩
    · by_cases h : entryKey e = entryKey x
      · exact ⟨e, .inl rfl, h⟩
      · exact ⟨x, .inr ⟨hx, h⟩, rfl⟩

/-- An insertion takes a place for a new key alone. -/
theorem length_insertStream (e : StreamEntry) {l : List StreamEntry} (ascends : keysAscend l = true) :
    (insertStream e l).length = l.length + if (lookupStream l (entryKey e)).isNone then 1 else 0 := by
  rw [keysAscend_iff] at ascends
  induction l with
  | nil => rfl
  | cons y ys ih =>
    obtain ⟨hy, hys⟩ := List.pairwise_cons.mp ascends
    unfold insertStream
    split
    · next hlt =>
      rw [if_pos]
      · rfl
      · rw [lookupStream_isNone_iff]
        rintro ⟨x, hx, heq⟩
        obtain rfl | hx := List.mem_cons.mp hx
        · omega
        · have := hy x hx
          omega
    · split
      · next heq => simp [lookupStream, heq]
      · next hne =>
        have skip : lookupStream (y :: ys) (entryKey e) = lookupStream ys (entryKey e) := by
          simp [lookupStream, Ne.symm hne]
        rw [List.length_cons, ih hys, skip, List.length_cons]
        omega

/-! ### Several entries join (R45) -/

/-- The list after every entry of a command has joined. -/
abbrev insertAll (es : List StreamEntry) (l : List StreamEntry) : List StreamEntry :=
  es.foldl (fun l e => insertStream e l) l

theorem insertAll_cons (e : StreamEntry) (es l : List StreamEntry) :
    insertAll (e :: es) l = insertAll es (insertStream e l) := rfl

theorem keysAscend_insertAll (es : List StreamEntry) {l : List StreamEntry} (ascends : keysAscend l = true) :
    keysAscend (insertAll es l) = true := by
  induction es generalizing l with
  | nil => exact ascends
  | cons e es ih => exact ih (keysAscend_insertStream e ascends)

/-- With distinct keys, the entries take a place for each key that was not there. -/
theorem length_insertAll {es : List StreamEntry} (distinct : (es.map entryKey).Nodup) {l : List StreamEntry}
    (ascends : keysAscend l = true) : (insertAll es l).length = l.length + newKeys es l := by
  induction es generalizing l with
  | nil => rfl
  | cons e es ih =>
    rw [List.map_cons, List.nodup_cons] at distinct
    obtain ⟨he, distinct⟩ := distinct
    have same : newKeys es (insertStream e l) = newKeys es l := by
      unfold newKeys
      congr 1
      refine List.filter_congr fun x hx => ?_
      have hne : entryKey x ≠ entryKey e := fun h => he (h ▸ List.mem_map_of_mem hx)
      rw [Bool.eq_iff_iff, lookupStream_isNone_iff, lookupStream_isNone_iff, hasKey_insertStream ascends]
      simp [hne]
    have here : newKeys (e :: es) l = (if (lookupStream l (entryKey e)).isNone then 1 else 0) + newKeys es l := by
      unfold newKeys
      rw [List.filter_cons]
      split <;> simp [Nat.add_comm]
    rw [insertAll_cons, ih distinct (keysAscend_insertStream e ascends), length_insertStream e ascends, same, here]
    omega

/-- With distinct keys, what stands after the entries have joined: they, and every old entry of another key. -/
theorem mem_insertAll {es : List StreamEntry} (distinct : (es.map entryKey).Nodup) {l : List StreamEntry}
    (ascends : keysAscend l = true) (x : StreamEntry) :
    x ∈ insertAll es l ↔ x ∈ es ∨ x ∈ l ∧ ∀ e ∈ es, entryKey e ≠ entryKey x := by
  induction es generalizing l with
  | nil => simp
  | cons e es ih =>
    rw [List.map_cons, List.nodup_cons] at distinct
    obtain ⟨he, distinct⟩ := distinct
    have other (hx : x = e) : ∀ y ∈ es, entryKey y ≠ entryKey x := by
      rintro y hy heq
      exact he (hx ▸ heq ▸ List.mem_map_of_mem hy)
    rw [insertAll_cons, ih distinct (keysAscend_insertStream e ascends), mem_insertStream ascends, List.mem_cons,
      List.forall_mem_cons]
    refine ⟨?_, ?_⟩
    · rintro (hx | ⟨rfl | ⟨hx, hne⟩, hall⟩)
      · exact .inl (.inr hx)
      · exact .inl (.inl rfl)
      · exact .inr ⟨hx, hne, hall⟩
    · rintro ((rfl | hx) | ⟨hx, hne, hall⟩)
      · exact .inr ⟨.inl rfl, other rfl⟩
      · exact .inl hx
      · exact .inr ⟨.inr ⟨hx, hne⟩, hall⟩

theorem firstRepeat_eq_none_iff (seen : List Nat) (n : Nat) (ks : List Nat) :
    firstRepeat seen n ks = none ↔ ks.Nodup ∧ ∀ k ∈ ks, k ∉ seen := by
  induction ks generalizing seen n with
  | nil => simp [firstRepeat]
  | cons k ks ih =>
    rw [firstRepeat, List.nodup_cons, List.forall_mem_cons]
    split
    · next h => simp [h]
    · next h =>
      rw [ih]
      constructor
      · rintro ⟨hks, hall⟩
        exact ⟨⟨fun hk => hall k hk List.mem_cons_self, hks⟩, h, fun j hj hs => hall j hj (List.mem_cons_of_mem k hs)⟩
      · rintro ⟨⟨hk, hks⟩, _, hall⟩
        refine ⟨hks, fun j hj hs => ?_⟩
        obtain rfl | hs := List.mem_cons.mp hs
        · exact hk hj
        · exact hall j hj hs

/-! ### The shadow bank keeps its shape -/

theorem contentsWf_insertAll {p : PlanContents} (wf : contentsWf p = true) {es : List StreamEntry}
    (distinct : (es.map entryKey).Nodup) (fits : p.streams.length + newKeys es p.streams ≤ 256) :
    contentsWf { p with streams := insertAll es p.streams } = true := by
  rw [contentsWf_iff] at wf ⊢
  obtain ⟨_, ascends, circuits, references⟩ := wf
  exact ⟨(length_insertAll distinct ascends).symm ▸ fits, keysAscend_insertAll es ascends, circuits, references⟩

theorem contentsWf_removeStreams {p : PlanContents} (wf : contentsWf p = true) (keys : List Nat) :
    contentsWf { p with streams := removeStreams keys p.streams } = true := by
  rw [contentsWf_iff, keysAscend_iff] at wf ⊢
  obtain ⟨length, ascends, circuits, references⟩ := wf
  exact ⟨(List.length_filter_le _ _).trans length, ascends.filter _, circuits, references⟩

variable {i : Instr} {s : State}

theorem streamLoad_updates {c : Command} (hc : beginning s = some c) (args : List Byte) :
    Updates i s (streamLoad args s) := by
  unfold streamLoad
  dsimp only
  split
  · exact complete_updates _ _ (free_of_beginning hc)
  · split
    · exact complete_updates _ _ (free_of_beginning hc)
    · next distinct =>
      refine .ite (fun _ => complete_updates _ _ (free_of_beginning hc)) fun fits => shadow_updates hc _ (fun wf => ?_) _ _
      exact contentsWf_insertAll wf ((firstRepeat_eq_none_iff _ _ _).mp distinct).1 (by simpa using fits)

theorem streamRemove_updates {c : Command} (hc : beginning s = some c) (args : List Byte) :
    Updates i s (streamRemove args s) := by
  unfold streamRemove
  dsimp only
  split
  · exact complete_updates _ _ (free_of_beginning hc)
  · split
    · exact complete_updates _ _ (free_of_beginning hc)
    · exact shadow_updates hc _ (fun wf => contentsWf_removeStreams wf _) _ _

theorem circuitLoad_updates {c : Command} (hc : beginning s = some c) (args : List Byte) :
    Updates i s (circuitLoad args s) := by
  unfold circuitLoad
  split
  · exact complete_updates _ _ (free_of_beginning hc)
  · exact shadow_updates hc _ (fun wf => by simpa [contentsWf] using wf) _ _

theorem referenceLoad_updates {c : Command} (hc : beginning s = some c) (args : List Byte) :
    Updates i s (referenceLoad args s) := by
  unfold referenceLoad
  split
  · exact complete_updates _ _ (free_of_beginning hc)
  · exact shadow_updates hc _ (fun wf => by simpa [contentsWf] using wf) _ _

theorem planRead_updates {c : Command} (hc : beginning s = some c) (args : List Byte) :
    Updates i s (planRead args s) := by
  unfold planRead
  dsimp only
  split
  · exact complete_updates _ _ (free_of_beginning hc)
  · exact complete_updates _ _ (free_of_beginning hc)

end Sys2Proof.Machine
end


section
/-! PROOFS. Every command of the block: its execution answers a full reset or what a chain of its updates leaves; and the
invariants are packaged over that once. -/

namespace Sys2Proof.Machine

variable {i : Instr} {s : State}

/-! ### Commands that place a claim, and the session's (R50, R104, R131, R139, R150, R169) -/

theorem planCommit_updates {c : Command} (hc : beginning s = some c) (awake : s.part.state ≠ .defect) (args : List Byte) :
    Updates i s (planCommit args s) := by
  unfold planCommit
  split
  · exact complete_updates _ _ (free_of_beginning hc)
  · exact .ite (fun _ => (hold_updates _ (free_of_beginning hc)).andThen (.places _ rfl nofun fun _ _ => awake))
      fun _ => complete_updates _ _ (free_of_beginning hc)

theorem sessionOpen_updates {c : Command} (hc : beginning s = some c) (args : List Byte) :
    Updates i s (sessionOpen args s) := by
  refine .ite (fun _ => refuseState_updates hc) fun dead => ?_
  have closed : s.session.state = .closed := by
    rwa [sessionLive_iff, not_not] at dead
  exact .trans (.one (.opens _ _ closed (held_of_beginning hc))) (complete_updates _ _ (free_of_beginning hc))

/-- Closing a session: it is taken apart, and then its restore claim is placed with the command held, or it is answered. -/
theorem closeSession_eq (s : State) :
    closeSession s =
      if unitsOf s.session.queue = [] then
        complete .ok (be 1 s.session.queue.length ++
          be 1 (s.builder.closings.filter (carriedBy s.session.queue)).length) (takenApart s)
      else placeClaim (.sessionRestore (unitsOf s.session.queue))
        (hold (.sessionClose s.session.queue.length (s.builder.closings.filter (carriedBy s.session.queue)).length)
          (takenApart s)) := rfl

@[simp] theorem takenApart_agent (s : State) : (takenApart s).agent = s.agent := by simp [takenApart]

theorem sessionClose_answers (s : State) : Answers i s (execSessionClose s) := by
  refine answered_answers fun c hc _ => .ite (fun _ => ?_) fun _ => refuseState_updates hc
  rw [closeSession_eq]
  exact .ite (fun units => .trans (.one (.closes units)) (complete_updates _ _ (by simpa using free_of_beginning hc)))
    fun _ => .one (.restoring _ (held_of_beginning hc))

theorem reportConfig_updates {c : Command} (hc : beginning s = some c) (args : List Byte) :
    Updates i s (reportConfig args s) :=
  ((onBuilder_updates (fun b => { b with interval := fieldAt args 0 2, urgent := fieldAt args 2 2 }) rfl rfl).trans
    (onSession_updates (fun q => { q with retry := fieldAt args 4 1, timeout := fieldAt args 5 2 })
      ⟨rfl, rfl, rfl, rfl, rfl, rfl, .inl⟩)).trans (complete_updates _ _ (free_of_beginning hc))

theorem reportFlush_updates {c : Command} (hc : beginning s = some c) : Updates i s (reportFlush s) := by
  have triggered : Updates i s (flushTrigger s) := trigger_updates _ s
  have free : (flushTrigger s).agent.held ≠ some .meteringClear := by simpa using free_of_beginning hc
  exact .ite (fun _ => refuseState_updates hc) fun _ => .ite (fun _ => triggered.trans (hold_updates _ free))
    fun _ => triggered.trans (complete_updates _ _ free)

theorem completeBroadcast_updates (free : s.agent.held ≠ some .meteringClear) : Updates i s (completeBroadcast s) :=
  .one (.agent _ (tail_length_le _) id (.inr free))

theorem execReportFlush_answers (s : State) : Answers i s (execReportFlush s) := by
  refine .ofBegins fun c hc => .updates ?_
  split
  · exact (trigger_updates _ s).trans (completeBroadcast_updates (by simpa [flushTrigger] using free_of_beginning hc))
  · exact checked_updates hc fun _ => reportFlush_updates hc

theorem meteringClear_answers (s : State) : Answers i s (execMeteringClear s) := by
  refine answered_answers fun c hc _ => .ite (fun _ => refuseState_updates hc) fun dead => ?_
  have closed : s.session.state = .closed := by
    rwa [sessionLive_iff, not_not] at dead
  exact .one (.placesClear closed (held_of_beginning hc))

theorem eventConfig_updates {c : Command} (hc : beginning s = some c) (args : List Byte) :
    Updates i s (eventConfig args s) :=
  .trans (.one (.events (fun e => { e with mask := appliedMask (BitVec.ofNat 32 (fieldAt args 0 4)) }) id))
    (complete_updates _ _ (free_of_beginning hc))

theorem setPending_updates (copyOf : Option Nat) (s : State) : Updates i s (setPending copyOf s) :=
  onAgent_updates _ rfl rfl rfl

theorem partReset_answers (s : State) : Answers i s (execPartReset s) := by
  refine .ofBegins fun c hc => ?_
  split
  · next n fate _ =>
    cases fate with
    | completed => exact .resets i .command s
    | buffered => exact .updates ((completeBroadcast_updates (free_of_beginning hc)).trans (setPending_updates _ _))
    | lost => exact .updates ((completeBroadcast_updates (free_of_beginning hc)).trans (setPending_updates _ _))
  · exact .updates (checked_updates hc fun _ =>
      (completeAs_updates _ _ _ (free_of_beginning hc)).trans (setPending_updates _ _))

/-! ### The links' rows (R1 to R4, R6) -/

theorem signalLoss_answers (p : PortId) (s : State) : Answers i s (execSignalLoss p s) := by
  unfold execSignalLoss
  split
  · exact .updates (loseLink_updates p _ s)
  · exact .ofOccurs fun _ => .updates (onPort_updates p _ s)
  · exact .stays i s

theorem breakOnset_answers (p : PortId) (s : State) : Answers i s (execBreakOnset p s) := by
  unfold execBreakOnset
  split
  · exact .updates (loseLink_updates p _ s)
  · split
    · exact .updates (enterBreak_updates p s)
    · exact .updates (onPort_updates p _ s)
  · exact .stays i s

theorem breakRelease_answers (p : PortId) (signalAfter : Bool) (s : State) :
    Answers i s (execBreakRelease p signalAfter s) := by
  unfold execBreakRelease
  split
  · exact .updates ((onPort_updates p _ s).trans (onLinks_updates _ rfl rfl rfl))
  · exact .ofOccurs fun _ => .updates (onPort_updates p _ s)
  · exact .stays i s

theorem giantFrame_answers (p : PortId) (s : State) : Answers i s (execGiantFrame p s) := by
  unfold execGiantFrame
  split
  · exact .ofOccurs fun _ => .updates (onPort_updates p _ s)
  · exact .stays i s
  · exact .stays i s

theorem frameOctet_answers (p : PortId) (octet : Byte) (s : State) : Answers i s (execFrameOctet p octet s) := by
  unfold execFrameOctet
  split
  · exact .ofOccurs fun _ => .updates (.ite (fun _ => onPort_updates p _ s) fun _ => onPort_updates p _ s)
  · exact .stays i s
  · exact .stays i s

/-! ### The metering queue and engine (R23, R31, R33, R34) -/

theorem syncTimerExpiry_answers (s : State) : Answers i s (execSyncTimerExpiry s) := by
  refine .ofOccurs fun running => .updates ?_
  have timed : s.sync.timer = some 0 := by simpa [expires] using running
  unfold syncExpiry
  split
  · next locked =>
    refine .trans (.one (.sync _ fun ⟨_, interval⟩ => ⟨?_, ?_⟩)) (post_updates _ _ _ _)
    · cases h : s.sync.interval with
      | none => exact absurd (interval.mp h) (by simp [locked])
      | some n => simp
    · simpa [locked] using interval
  · next holdover =>
    refine .trans (.one (.sync _ fun ⟨_, interval⟩ => ⟨by simp, ?_⟩)) (post_updates _ _ _ _)
    simpa [holdover] using interval
  · exact .refl i s
  · exact .refl i s

/-- A frame that begins leaves the queue for the engine, or for the counter of its ending (R31). -/
theorem frameBegin_answers (s : State) : Answers i s (execFrameBegin s) := by
  unfold execFrameBegin
  split
  · exact .stays i s
  · next f rest queue =>
    refine .ofOccurs fun idle => .updates ?_
    have boundary : s.engine.metering = none := by
      have := (Bool.and_eq_true _ _ ▸ idle).1
      simpa [atBoundary] using this
    have shorter : s.engine.queue.length ≤ 8 → rest.length ≤ 8 := by
      rw [queue, List.length_cons]
      omega
    refine .ite (fun _ => .one (.engine _ shorter rfl fun _ => ?_)) fun _ => .one (.engine _ shorter rfl fun _ => ?_)
    · simp only [scanAccount, boundary, queue, List.length_cons, BitVec.ofNat_add]
      simp
      ac_rfl
    · simp [scanAccount, boundary, queue]

theorem frameMetered_answers (s : State) : Answers i s (execFrameMetered s) := by
  unfold execFrameMetered
  split
  · exact .stays i s
  · next m metering =>
    refine .ofOccurs fun _ => .updates (.one (.engine _ id rfl fun _ => ?_))
    simp only [scanAccount, metering, BitVec.ofNat_add]
    simp
    ac_rfl

theorem unmappedSample_answers (s : State) : Answers i s (execUnmappedSample s) := by
  unfold execUnmappedSample
  split
  · exact .stays i s
  · split
    · refine .updates (.trans (.one (.engine (fun e =>
        { e with counters := { e.counters with unmapped := e.counters.unmapped + 1 } }) id rfl fun _ => rfl))
        (sampleDone_updates _ _))
    · exact .updates (sampleDone_updates _ s)
    · exact .stays i s
    · exact .stays i s

/-! ### The scrubber and the reporting timers (R60, R61, R124, R147) -/

theorem scrubWaitExpiry_answers (s : State) : Answers i s (execScrubWaitExpiry s) := by
  unfold execScrubWaitExpiry
  split
  · next left waiting => exact .ofOccurs fun _ => .updates (.one (.plan _ id (by simp [waiting])))
  · exact .stays i s
  · exact .stays i s

theorem scrubPassEnd_answers (s : State) : Answers i s (execScrubPassEnd s) := by
  unfold execScrubPassEnd
  split
  · next position check running =>
    split
    · exact .updates (.one (.plan _ id (by simp [running])))
    · exact .updates (.one (.faults _ position check running))
  · exact .stays i s
  · exact .stays i s

theorem advancePass_stopped_iff (p : PlanStore) (n : Nat) : advancePass p n = .stopped ↔ p.pass = .stopped := by
  unfold advancePass
  split <;> simp_all

theorem storageDisturbance_answers (contents : PlanContents) (check : Word) (n : Nat) (s : State) :
    Answers i s (execStorageDisturbance contents check n s) :=
  .ofOccurs fun wf => .updates (.one (.plan _ (fun h => ⟨wf, h.2⟩) (advancePass_stopped_iff _ n)))

theorem intervalTimerExpiry_answers (s : State) : Answers i s (execIntervalTimerExpiry s) := by
  refine .ofOccurs fun running => .updates ?_
  have timed : s.builder.timer = some 0 := by simpa [expires] using running
  exact (onBuilder_updates _ rfl (by simp [timed])).trans (trigger_updates _ _)

/-- Records keep what they carry when their state changes. -/
theorem markResend_content (q : List Record) : (markResend q).map Record.content = q.map Record.content := by
  simp only [markResend, List.map_map]
  refine List.map_congr_left fun r _ => ?_
  simp only [Function.comp_apply]
  split <;> rfl

theorem retransmitTimerExpiry_answers (s : State) : Answers i s (execRetransmitTimerExpiry s) := by
  refine .ofOccurs fun expired => .updates ?_
  have opened : s.session.state = .open_ :=
    of_decide_eq_true (Bool.and_eq_true _ _ ▸ expired).2
  have counted : Updates i s (s.onSession fun q =>
      { q with timer := none, retransmitTimeouts := q.retransmitTimeouts + 1, timeouts := q.timeouts + 1 }) :=
    onSession_updates _ ⟨rfl, rfl, rfl, rfl, rfl, rfl, nofun⟩
  exact .ite (fun _ => counted.trans (enterHold_updates opened (by decide))) fun _ =>
    counted.trans (onSession_updates _ ⟨markResend_content _, rfl, rfl, rfl, rfl, rfl, .inl⟩)

/-! ### The part controller (R182 to R187) -/

theorem bypassFor_bypass {cause : ResetCause} (h : bypassFor cause s = true) : s.part.state = .bypass := by
  simp only [bypassFor, Bool.and_eq_true, beq_iff_eq] at h
  exact h.1

theorem stateAfterCheck_ne_metering (tap : BitVec 5) (passed : Bool) : stateAfterCheck tap passed ≠ .metering := by
  unfold stateAfterCheck
  (repeat' split) <;> simp

theorem startPort_updates (p : PortId) (s : State) : Updates i s (startPort p s) := by
  unfold startPort
  split
  · exact .refl i s
  · exact onPort_updates p _ s
  · exact enterBreak_updates p s

theorem selfCheckEnd_answers (passed : Bool) (s : State) : Answers i s (execSelfCheckEnd passed s) :=
  .ofOccurs fun starting => .updates ((((Updates.one (.selfChecked _ passed (by simpa using starting)
    (stateAfterCheck_ne_metering _ _))).trans (startPort_updates _ _)).trans (startPort_updates _ _)).trans
    (post_updates _ _ _ _))

/-! ### Every command -/

/-- Every command answers a full reset, or what a chain of its updates leaves. -/
theorem exec_answers (i : Instr) (s : State) : Answers i s (exec i s) := by
  cases i with
  | signalReturn p => exact .ofOccurs fun _ => .updates (onPort_updates p _ s)
  | linkUp p => exact .ofOccurs fun _ => .updates (enterUp_updates p s)
  | signalLoss p => exact signalLoss_answers p s
  | breakOnset p => exact breakOnset_answers p s
  | breakRelease p signal => exact breakRelease_answers p signal s
  | breakTimerExpiry => exact .ofOccurs fun _ => .resets _ .break_ s
  | frameStart p => exact .ofOccurs fun _ => .updates (onPort_updates p _ s)
  | giantFrame p => exact giantFrame_answers p s
  | frameEnd ending => exact frameEnd_updates ending s
  | fieldTransmitBegin => exact .ofOccurs fun _ => .updates (onLinks_updates _ rfl rfl rfl)
  | headTransmitChoice => exact .ofOccurs fun _ => .updates (choose_updates s)
  | transmissionComplete p =>
    cases p with
    | field => exact completeField_answers s
    | head => exact completeHead_answers s
  | syncTimerExpiry => exact syncTimerExpiry_answers s
  | frameBegin => exact frameBegin_answers s
  | unmappedSample => exact unmappedSample_answers s
  | voltageSample => exact voltageSample_answers s
  | currentSample => exact currentSample_answers s
  | frameMetered => exact frameMetered_answers s
  | epochFlush => exact epochFlush_answers s
  | commitBoundary => exact commitBoundary_answers s
  | builderTake => exact builderTake_answers s
  | ackRelease => exact ackRelease_answers s
  | sessionRestore => exact sessionRestore_answers s
  | circuitReadClaim => exact circuitReadClaim_answers s
  | referenceReadClaim => exact referenceReadClaim_answers s
  | meteringClearClaim => exact meteringClearClaim_answers s
  | scrubWaitExpiry => exact scrubWaitExpiry_answers s
  | scrubPassEnd => exact scrubPassEnd_answers s
  | intervalTimerExpiry => exact intervalTimerExpiry_answers s
  | retransmitTimerExpiry => exact retransmitTimerExpiry_answers s
  | unknownCommand => exact unknownCommand_answers s
  | statusRead => exact statusRead_answers s
  | countersRead => exact countersRead_answers s
  | planClear => exact planClear_answers s
  | planCopy => exact planCopy_answers s
  | streamLoad => exact answered_answers fun _ hc _ => streamLoad_updates hc _
  | streamRemove => exact answered_answers fun _ hc _ => streamRemove_updates hc _
  | circuitLoad => exact answered_answers fun _ hc _ => circuitLoad_updates hc _
  | referenceLoad => exact answered_answers fun _ hc _ => referenceLoad_updates hc _
  | planRead => exact answered_answers fun _ hc _ => planRead_updates hc _
  | planCommit => exact answered_answers fun _ hc awake => planCommit_updates hc (awake.resolve_right nofun) _
  | sessionOpen => exact answered_answers fun _ hc _ => sessionOpen_updates hc _
  | sessionClose => exact sessionClose_answers s
  | reportConfig => exact answered_answers fun _ hc _ => reportConfig_updates hc _
  | reportFlush => exact execReportFlush_answers s
  | circuitRead =>
    exact answered_answers fun _ hc _ => (hold_updates _ (free_of_beginning hc)).andThen (.places _ rfl nofun nofun)
  | referenceRead =>
    exact answered_answers fun _ hc _ => (hold_updates _ (free_of_beginning hc)).andThen (.places _ rfl nofun nofun)
  | eventConfig => exact answered_answers fun _ hc _ => eventConfig_updates hc _
  | meteringClear => exact meteringClear_answers s
  | partReset => exact partReset_answers s
  | partResetDeadline => exact .ofOccurs fun _ => .resets _ .command s
  | supplyFail => exact .resets _ .power s
  | supplyGood straps => exact .ofOccurs fun h => .updates (.one (.starts straps (bypassFor_bypass h)))
  | bypassBreakRelease signal straps =>
    exact .ofOccurs fun h => .updates ((onPort_updates .head _ s).andThen (.starts straps (bypassFor_bypass h)))
  | commandBypassEnd straps =>
    exact .ofOccurs fun h => .updates (.one (.starts straps (bypassFor_bypass (Bool.and_eq_true _ _ ▸ h).1)))
  | selfCheckEnd passed => exact selfCheckEnd_answers passed s
  | frameOctet p octet => exact frameOctet_answers p octet s
  | storageDisturbance contents check octetsRead => exact storageDisturbance_answers contents check octetsRead s

/-- What a command's next state is. -/
theorem exec_cases {i : Instr} {s t : State} (h : exec i s = .next t) :
    (∃ cause, t = fullReset cause s) ∨ Updates i s t := by
  obtain ⟨t', ht, answer⟩ := exec_answers i s
  rw [h] at ht
  cases ht
  exact answer

/-! ### Invariants -/

/-- What every update of a command keeps, its chains keep. -/
theorem Updates.keeps {P : State → Prop} {i : Instr} (keeps : ∀ s t, Update i s t → P s → P t) {s t : State}
    (h : Updates i s t) (hs : P s) : P t := by
  induction h with
  | refl => exact hs
  | tail _ hupdate ih => exact keeps _ _ hupdate ih

/-- A predicate that a full reset establishes, and that a millisecond, the taking of a command from the queue and every
update keep, is kept by every step. -/
theorem step_keeps {P : State → Prop} (reset : ∀ cause s, P (fullReset cause s)) (time : ∀ s, P s → P (millisecond s))
    (pending : ∀ s l, P s → P { s with pending := l }) (keeps : ∀ i s t, Update i s t → P s → P t) {s t : State}
    (hs : P s) (h : step s = .next t) : P t := by
  unfold step at h
  split at h
  · cases h
    exact time s hs
  · obtain ⟨cause, rfl⟩ | updates := exec_cases h
    · exact reset cause _
    · exact updates.keeps (keeps _) (pending _ _ hs)

end Sys2Proof.Machine
end


section
/-! PROOFS. Invariants of one block: the plan banks (R37, R38), the timers and the scrubber (2.2, R60, R124, R138, R148), and the
bounds of the energies (R92, R112). -/

namespace Sys2Proof.Machine

/-! ### What the updates of this development and a millisecond leave -/

/-- takenApart leaves every block but links, builder, session. -/
@[simp] theorem takenApart_keeps (s : State) :
    (takenApart s).part = s.part ∧ (takenApart s).sync = s.sync ∧ (takenApart s).engine = s.engine ∧
    (takenApart s).circuits = s.circuits ∧ (takenApart s).refs = s.refs ∧ (takenApart s).plan = s.plan ∧
    (takenApart s).events = s.events ∧ (takenApart s).pending = s.pending := by
  simp [takenApart]

/-- composed leaves every block but circuits, builder, session. -/
@[simp] theorem composed_keeps (run : Run) (s : State) :
    (composed run s).part = s.part ∧ (composed run s).links = s.links ∧ (composed run s).sync = s.sync ∧
    (composed run s).engine = s.engine ∧ (composed run s).refs = s.refs ∧ (composed run s).plan = s.plan ∧
    (composed run s).agent = s.agent ∧ (composed run s).events = s.events ∧ (composed run s).pending = s.pending := by
  simp [composed]

/-- enterStarting leaves every block but part. -/
@[simp] theorem enterStarting_keeps (straps : BitVec 5) (s : State) :
    (enterStarting straps s).links = s.links ∧ (enterStarting straps s).sync = s.sync ∧
    (enterStarting straps s).engine = s.engine ∧ (enterStarting straps s).circuits = s.circuits ∧
    (enterStarting straps s).refs = s.refs ∧ (enterStarting straps s).plan = s.plan ∧
    (enterStarting straps s).builder = s.builder ∧ (enterStarting straps s).session = s.session ∧
    (enterStarting straps s).agent = s.agent ∧ (enterStarting straps s).events = s.events ∧
    (enterStarting straps s).pending = s.pending := by
  simp [enterStarting]

/-- A millisecond leaves what it does not time (R188). -/
@[simp] theorem millisecond_keeps (s : State) :
    (millisecond s).part.state = s.part.state ∧ (millisecond s).engine = s.engine ∧
    (millisecond s).circuits = s.circuits ∧ (millisecond s).refs = s.refs ∧ (millisecond s).events = s.events ∧
    (millisecond s).plan.active = s.plan.active ∧ (millisecond s).plan.shadow = s.plan.shadow ∧
    (millisecond s).links.up = s.links.up ∧ (millisecond s).links.down = s.links.down ∧
    (millisecond s).links.headTx = s.links.headTx ∧ (millisecond s).builder.closings = s.builder.closings ∧
    (millisecond s).session.queue = s.session.queue ∧ (millisecond s).session.state = s.session.state ∧
    (millisecond s).agent.queue = s.agent.queue ∧ (millisecond s).agent.responses = s.agent.responses ∧
    (millisecond s).agent.held = s.agent.held ∧ (millisecond s).pending = s.pending := by
  unfold millisecond
  split <;> simp

/-! ### The plan banks -/

theorem Update.keeps_banks {i : Instr} {s t : State} (h : Update i s t) (hs : PlanBanksWf s) : PlanBanksWf t := by
  have ofPlan {t : State} (active : t.plan.active = s.plan.active) (shadow : t.plan.shadow = s.plan.shadow) :
      PlanBanksWf t := by rwa [PlanBanksWf, active, shadow]
  cases h with
  | plan f banks _ => exact banks hs
  | selfChecked => exact ⟨emptyContents_wf, emptyContents_wf⟩
  | faults computed => exact ofPlan rfl rfl
  | commitsPart new =>
    unfold commitPartState
    split
    · exact ofPlan rfl rfl
    · exact ofPlan rfl rfl
  | _ => exact ofPlan (by simp) (by simp)

/-- Settles O53: among the updates only those of the plan store and the end of the self-check touch a bank. -/
theorem everyStepKeepsTheBanksWellFormed : Obligations.EveryStepKeepsTheBanksWellFormed := fun _ _ hs h =>
  step_keeps (P := PlanBanksWf) (fun _ _ => ⟨emptyContents_wf, emptyContents_wf⟩) (fun s h => by simpa [PlanBanksWf] using h)
    (fun _ _ h => h) (fun _ _ _ h => h.keeps_banks) hs h

/-! ### The timers -/

/-- The four conditions on timers that speak of the session and the builder. -/
structure SessionTimersFit (b : Builder) (q : Session) : Prop where
  report : b.timer.isSome = true ↔ q.state ≠ .closed
  retransmit : q.timer.isSome = true → q.state = .open_
  hold : q.cause = .none ↔ q.state ≠ .hold

theorem timersFit_iff (s : State) : TimersFit s ↔ SyncFits s.sync ∧ SessionTimersFit s.builder s.session :=
  ⟨fun h => ⟨⟨h.sync, h.interval⟩, h.report, h.retransmit, h.hold⟩,
    fun ⟨hs, hq⟩ => ⟨hs.1, hs.2, hq.report, hq.retransmit, hq.hold⟩⟩

/-- A session that keeps its state and cause, with the timer no freer than before, and a report timer that runs as before. -/
theorem SessionTimersFit.of_kept {b b' : Builder} {q q' : Session} (h : SessionTimersFit b q)
    (report : b'.timer.isSome = b.timer.isSome) (state : q'.state = q.state) (cause : q'.cause = q.cause)
    (timer : q'.timer.isSome = true → q.timer.isSome = true ∨ q.state = .open_) : SessionTimersFit b' q' where
  report := by rw [report, state]; exact h.report
  retransmit ht := by rw [state]; exact (timer ht).elim h.retransmit id
  hold := by rw [cause, state]; exact h.hold

/-- Retiring records leaves the session's timer and hold cause, and the interval timer. -/
@[simp] theorem retire_timers (n : Nat) (s : State) :
    (retire n s).session.timer = s.session.timer ∧ (retire n s).session.cause = s.session.cause ∧
      (retire n s).builder.timer = s.builder.timer := by
  unfold retire
  dsimp only
  split <;> simp

theorem Update.keeps_syncFits {i : Instr} {s t : State} (h : Update i s t) (hs : SyncFits s.sync) : SyncFits t.sync := by
  have ofSync {t : State} (h : t.sync = s.sync) : SyncFits t.sync := h ▸ hs
  cases h with
  | sync f fits => exact fits hs
  | _ => exact ofSync (by simp)

theorem Update.keeps_sessionTimers {i : Instr} {s t : State} (h : Update i s t) (hs : SessionTimersFit s.builder s.session) :
    SessionTimersFit t.builder t.session := by
  have ofKept {t : State} (builder : t.builder.timer = s.builder.timer) (state : t.session.state = s.session.state)
      (cause : t.session.cause = s.session.cause) (timer : t.session.timer = s.session.timer) :
      SessionTimersFit t.builder t.session := hs.of_kept (by rw [builder]) state cause (by rw [timer]; exact .inl)
  have apart : SessionTimersFit (takenApart s).builder (takenApart s).session := by
    constructor <;> simp [takenApart, closedSession]
  cases h with
  | session f kept => exact hs.of_kept rfl kept.state kept.cause kept.timer
  | builder f _ timer => exact hs.of_kept timer rfl rfl .inl
  | tallySent q =>
    refine hs.of_kept rfl rfl rfl fun ht => ?_
    by_cases opened : s.session.state = .open_
    · exact .inr opened
    · exact .inl (by simpa [Machine.tallySent, opened] using ht)
  | holds cause opened named =>
    have running := hs.report.mpr (by simp [opened])
    constructor <;> simp [running, named]
  | resumes held =>
    have running := hs.report.mpr (by simp [held])
    constructor <;> simp [running]
  | opens id first closed => constructor <;> simp [openSession]
  | closes => exact apart
  | restoring h => exact ⟨by simpa using apart.report, by simpa using apart.retransmit, by simpa using apart.hold⟩
  | retires n => exact ofKept (by simp) (by simp) (by simp) (by simp)
  | records =>
    generalize visitAll s = run
    exact ofKept rfl rfl rfl rfl
  | appends => exact ofKept rfl rfl rfl rfl
  | closesCircuit active c => exact ofKept (by simp [closeCircuit]) (by simp) (by simp) (by simp)
  | clears => exact ofKept (by simp [clearMetering]) (by simp) (by simp) (by simp)
  | _ => exact ofKept (by simp) (by simp) (by simp) (by simp)

theorem Update.keeps_timers {i : Instr} {s t : State} (h : Update i s t) (hs : TimersFit s) : TimersFit t := by
  rw [timersFit_iff] at hs ⊢
  exact ⟨h.keeps_syncFits hs.1, h.keeps_sessionTimers hs.2⟩

@[simp] theorem Timer.isSome_tick (t : Timer) : t.tick.isSome = t.isSome := by simp [Timer.tick]

theorem millisecond_keeps_timers (s : State) (hs : TimersFit s) : TimersFit (millisecond s) := by
  rw [timersFit_iff] at hs ⊢
  obtain ⟨⟨timer, interval⟩, hq⟩ := hs
  unfold millisecond
  split
  · exact ⟨⟨timer, interval⟩, hq⟩
  · exact ⟨⟨by simpa using timer, interval⟩, hq.of_kept (by simp) rfl rfl fun ht => .inl (by simpa using ht)⟩

/-! ### The scrubber -/

/-- Which updates move the part state, or start or stop the scrubber: together they keep it fitting. -/
theorem Update.keeps_scrubber {i : Instr} {s t : State} (h : Update i s t) (hs : ScrubberFits s) : ScrubberFits t := by
  have ofKept {t : State} (part : t.part.state = s.part.state) (pass : t.plan.pass = .stopped ↔ s.plan.pass = .stopped) :
      ScrubberFits t := by rwa [ScrubberFits, part, pass]
  cases h with
  | plan f _ pass => exact ofKept rfl pass
  | starts straps bypass => simpa [ScrubberFits, enterStarting, bypass] using hs
  | selfChecked next passed starting fits => simp [ScrubberFits, PlanStore.reset, fits]
  | faults computed => simp [ScrubberFits, faultPlan]
  | commitsPart new => unfold commitPartState; split <;> simp [ScrubberFits]
  | closesCircuit active c => exact ofKept (by simp) (by simp)
  | _ => exact ofKept (by simp) (by simp)

theorem PassState.tick_stopped_iff (p : PassState) : p.tick = .stopped ↔ p = .stopped := by
  cases p <;> simp [PassState.tick]

theorem millisecond_keeps_scrubber (s : State) (hs : ScrubberFits s) : ScrubberFits (millisecond s) := by
  unfold millisecond
  split
  · exact hs
  · simpa [ScrubberFits, PassState.tick_stopped_iff] using hs

theorem fullReset_timersFit (cause : ResetCause) (s : State) : TimersFit (fullReset cause s) := by
  constructor <;> simp [fullReset, State.afterReset, Sync.reset, Builder.reset, Session.reset]

theorem fullReset_scrubberFits (cause : ResetCause) (s : State) : ScrubberFits (fullReset cause s) := by
  simp [ScrubberFits, fullReset, State.afterReset, PlanStore.reset, PartController.reset]

/-- Settles O55: the updates of the sync monitor, the session, the builder, the scrubber and the part state, one by one. -/
theorem everyStepKeepsTheTimersFitting : Obligations.EveryStepKeepsTheTimersFitting := fun _ _ h =>
  ⟨fun hs => step_keeps fullReset_timersFit millisecond_keeps_timers
      (fun _ _ h => ⟨h.sync, h.interval, h.report, h.retransmit, h.hold⟩) (fun _ _ _ h => h.keeps_timers) hs h,
    fun hs => step_keeps fullReset_scrubberFits millisecond_keeps_scrubber (fun _ _ h => h)
      (fun _ _ _ h => h.keeps_scrubber) hs h⟩

end Sys2Proof.Machine
end


section
/-! PROOFS. Invariants of the circuit table and the references: the bounds of the energies (R92, R112) and the scan order of
rings and park queues (R65, R87). -/

namespace Sys2Proof.Machine

variable {i : Instr} {s t : State}

/-! ### What a move of units leaves of a circuit -/

/-- The three energies of a direction. -/
def DirState.energies (x : DirState) : Nat × Nat × Nat := (x.accumulator, x.satLoss, x.floorDiscarded)

/-- What no move of units touches: the park queue and the energies of both directions. -/
def CircuitState.stores (x : CircuitState) : List Parked × (Nat × Nat × Nat) × (Nat × Nat × Nat) :=
  (x.park, x.imp.energies, x.exp.energies)

theorem stores_onDir {f : DirState → DirState} (keeps : ∀ x, (f x).energies = x.energies) (d : Direction)
    (x : CircuitState) : (x.onDir d f).stores = x.stores := by
  cases d <;> simp [CircuitState.stores, CircuitState.onDir, keeps]

theorem onDir_stores {f : DirState → DirState} (keeps : ∀ x, (f x).energies = x.energies) (c e : Fin 96) (d : Direction)
    (s : State) : ((s.onDir c d f).circ e).stores = (s.circ e).stores :=
  onCirc_keeps CircuitState.stores (stores_onDir keeps d) c e s

theorem releaseUnits_stores (us : List UnitsRef) (s : State) (c : Fin 96) :
    ((releaseUnits us s).circ c).stores = (s.circ c).stores := by
  unfold releaseUnits
  rw [foldl_keeps (fun t : State => (t.circ c).stores) _ fun t u => ?_,
    foldl_keeps (fun t : State => (t.circ c).stores) _ fun t u => ?_]
  · exact onDir_stores (by simp [DirState.energies]) _ _ _ _
  · unfold unblockTest
    dsimp only
    split
    · exact onDir_stores (by simp [DirState.energies]) _ _ _ _
    · rfl

theorem restoreUnits_stores (us : List UnitsRef) (s : State) (c : Fin 96) :
    ((us.foldl restoreUnits s).circ c).stores = (s.circ c).stores :=
  foldl_keeps (fun t : State => (t.circ c).stores) _ (fun _ _ => onDir_stores (by simp [DirState.energies]) _ _ _ _) _ _

/-! ### The builder's visit -/

/-- The running state of a circuit in a run. -/
def Run.circ (run : Run) (c : Fin 96) : CircuitState := run.circuits.getD c.val .cleared

theorem circ_composed (run : Run) (s : State) (c : Fin 96) : (composed run s).circ c = run.circ c := rfl

/-- What the visit of a direction does to a circuit: nothing, or its units are taken. -/
theorem visitDir_circ_or (p : PlanContents) (c e : Fin 96) (d : Direction) (run : Run) :
    (visitDir p c d run).circ e = run.circ e ∨
      e = c ∧ (visitDir p c d run).circ e = (run.circ c).onDir d takeUnits := by
  unfold visitDir
  dsimp only
  split
  · exact circ_onCirc_or c e (CircuitState.onDir d takeUnits) { State.reset with circuits := run.circuits }
  · exact .inl rfl

/-- What no taking of units touches, no visit touches. -/
theorem visitAll_keeps {β : Type} (g : CircuitState → β) (keeps : ∀ x d, g (x.onDir d takeUnits) = g x) (s : State)
    (c : Fin 96) : g ((visitAll s).circ c) = g (s.circ c) := by
  have dir (p : PlanContents) (e : Fin 96) (d : Direction) (run : Run) : g ((visitDir p e d run).circ c) = g (run.circ c) := by
    obtain h | ⟨rfl, h⟩ := visitDir_circ_or p e c d run <;> rw [h]
    exact keeps _ _
  exact foldl_keeps (fun run : Run => g (run.circ c)) _ (fun run e => by
    show g ((visitDir _ e .exp (visitDir _ e .imp run)).circ c) = g (run.circ c)
    rw [dir, dir]) _ _

theorem visitAll_stores (s : State) (c : Fin 96) : ((visitAll s).circ c).stores = (s.circ c).stores :=
  visitAll_keeps CircuitState.stores (fun x d => stores_onDir (by simp [DirState.energies, takeUnits]) d x) s c

/-! ### A circuit after an update -/

/-- Two updates of one circuit are one. -/
theorem onCirc_onCirc (c : Fin 96) (f g : CircuitState → CircuitState) (s : State) (h : s.circuits.length = 96) :
    (s.onCirc c f).onCirc c g = s.onCirc c fun x => g (f x) := by
  have hself := State.circ_onCirc_self c f s h
  simp only [State.onCirc, State.onCircuits] at hself ⊢
  rw [hself, List.set_set]

/-- A sample joined to a park queue, a full one first losing its oldest (R87). -/
def parkInto (x : Parked) (q : List Parked) : List Parked :=
  placeByScan Parked.scan x (if 8 ≤ q.length then q.tail else q)

theorem parkSample_eq (c : Fin 96) (x : Parked) (s : State) (h : s.circuits.length = 96) :
    parkSample c x s = s.onCirc c fun y =>
      { y with park := parkInto x (s.circ c).park,
               missed := if 8 ≤ (s.circ c).park.length then y.missed + 1 else y.missed } := by
  have places : Config.parkPlaces = 8 := rfl
  unfold parkSample parkInto
  dsimp only
  rw [places]
  split
  · rw [countMiss, onCirc_onCirc _ _ _ _ h]
  · rfl

/-- A sample has joined a circuit's park queue, and nothing of its directions has moved. -/
structure Joined (x : Parked) (y z : CircuitState) : Prop where
  fresh : ∀ p ∈ y.park, p.scan ≠ x.scan
  park : z.park = parkInto x y.park
  imp : z.imp = y.imp
  exp : z.exp = y.exp

/-- What an update can make of a circuit: a tame update, the cleared state, a move of units, or a parked sample. -/
inductive CircuitMoves (x y : CircuitState) : Prop
  | tame (h : CircuitTame x y)
  | cleared (h : y = .cleared)
  | units (h : y.stores = x.stores)
  | joined (p : Parked) (h : Joined p x y)

theorem circ_of_circuits {s t : State} (h : t.circuits = s.circuits) (c : Fin 96) : t.circ c = s.circ c := by
  rw [State.circ, State.circ, h]

theorem circ_map_or (f : CircuitState → CircuitState) (s : State) (c : Fin 96) :
    (s.onCircuits fun l => l.map f).circ c = s.circ c ∨ (s.onCircuits fun l => l.map f).circ c = f (s.circ c) := by
  by_cases hlt : c.val < s.circuits.length <;> simp [State.circ, List.getD_eq_getElem?_getD, hlt]

theorem circ_clearCircuit (e c : Fin 96) (s : State) :
    (clearCircuit s e).circ c = (s.onCirc e fun _ => .cleared).circ c := by
  refine circ_of_circuits ?_ c
  simp [clearCircuit]

theorem circ_clearMetering_or (s : State) (c : Fin 96) :
    (clearMetering s).circ c = s.circ c ∨ (clearMetering s).circ c = .cleared := by
  have fold (l : List (Fin 96)) (s : State) :
      (l.foldl clearCircuit s).circ c = s.circ c ∨ (l.foldl clearCircuit s).circ c = .cleared := by
    induction l generalizing s with
    | nil => exact .inl rfl
    | cons e rest ih =>
      refine (ih _).elim (fun h => ?_) .inr
      rw [List.foldl_cons, h, circ_clearCircuit]
      exact (circ_onCirc_or e c _ s).imp_right And.right
  have circuits : (clearMetering s).circuits = (allCircuits.foldl clearCircuit s).circuits := by simp [clearMetering]
  rw [circ_of_circuits circuits]
  exact fold _ s

theorem Update.circ_moves (h : Update i s t) (present : s.circuits.length = 96) (c : Fin 96) :
    CircuitMoves (s.circ c) (t.circ c) := by
  have same {t : State} (circuits : t.circuits = s.circuits) : CircuitMoves (s.circ c) (t.circ c) := by
    rw [circ_of_circuits circuits]
    exact .tame (.refl _)
  cases h with
  | closesCircuit p e =>
    obtain h | ⟨-, h⟩ := circ_closeCircuit_or p e c s
    · exact h ▸ .tame (.refl _)
    · exact .cleared h
  | records =>
    rw [circ_composed]
    exact .units (visitAll_stores s c)
  | releases us => exact .units (releaseUnits_stores us (dropClaim s) c)
  | restores us => exact .units (restoreUnits_stores us (dropClaim s) c)
  | clears =>
    obtain h | h := circ_clearMetering_or (dropClaim s) c
    · have dropped : (dropClaim s).circ c = s.circ c := rfl
      rw [h, dropped]
      exact .tame (.refl _)
    · exact .cleared h
  | circuit e f tame =>
    obtain h | ⟨rfl, h⟩ := circ_onCirc_or e c f s <;> rw [h]
    · exact .tame (.refl _)
    · exact .tame tame
  | circuits f tame =>
    obtain h | h := circ_map_or f s c <;> rw [h]
    · exact .tame (.refl _)
    · exact .tame (tame _)
  | parks e x _ fresh =>
    rw [parkSample_eq e x s present]
    obtain h | ⟨rfl, h⟩ := circ_onCirc_or e c _ s <;> rw [h]
    · exact .tame (.refl _)
    · exact .joined x ⟨fresh, rfl, rfl, rfl⟩
  | _ => exact same (by simp)

/-- No update adds or removes a circuit. -/
theorem Update.length_circuits (h : Update i s t) : t.circuits.length = s.circuits.length := by
  have same {t : State} (circuits : t.circuits = s.circuits) : t.circuits.length = s.circuits.length := by rw [circuits]
  have dir (p : PlanContents) (e : Fin 96) (d : Direction) (run : Run) :
      (visitDir p e d run).circuits.length = run.circuits.length := by
    unfold visitDir
    dsimp only
    split <;> simp
  cases h with
  | closesCircuit p e => simp [closeCircuit]
  | records =>
    have circuits (run : Run) : (composed run s).circuits = run.circuits := rfl
    rw [circuits]
    exact foldl_keeps (fun run : Run => run.circuits.length) _ (fun run e => by
      show (visitDir _ e .exp (visitDir _ e .imp run)).circuits.length = _
      rw [dir, dir]) _ _
  | releases us =>
    unfold releaseUnits
    rw [foldl_keeps (fun t : State => t.circuits.length) _ fun t u => ?_,
      foldl_keeps (fun t : State => t.circuits.length) _ fun t u => ?_]
    · simp
    · simp [lowerInFlight]
    · unfold unblockTest
      dsimp only
      split <;> simp [postUnblocked]
  | restores us =>
    rw [foldl_keeps (fun t : State => t.circuits.length) _ fun t u => ?_]
    · simp
    · simp [restoreUnits]
  | clears =>
    have circuits : (clearMetering (dropClaim s)).circuits = (allCircuits.foldl clearCircuit (dropClaim s)).circuits := by
      simp [clearMetering]
    rw [circuits, foldl_keeps (fun t : State => t.circuits.length) _ fun t e => ?_]
    · simp
    · simp [clearCircuit]
  | circuit => exact State.onCirc_length _ _ _
  | circuits => exact List.length_map _
  | parks e x =>
    unfold parkSample countMiss
    dsimp only
    split <;> simp
  | _ => exact same (by simp)

theorem length_circuits_fullReset (cause : ResetCause) (s : State) : (fullReset cause s).circuits.length = 96 := by
  simp [fullReset, State.afterReset]

theorem circ_fullReset (cause : ResetCause) (s : State) (c : Fin 96) : (fullReset cause s).circ c = .cleared := by
  simp [fullReset, State.afterReset, State.circ, List.getD_eq_getElem?_getD, -List.reduceReplicate]

/-! ### The energies -/

theorem DirState.bounded_of_energies {x y : DirState} (h : y.energies = x.energies) (hx : x.Bounded) : y.Bounded := by
  simp only [energies, Prod.mk.injEq] at h
  rwa [Bounded, h.1, h.2.1, h.2.2]

theorem CircuitMoves.bounded {x y : CircuitState} (h : CircuitMoves x y) (d : Direction) (hx : (x.dir d).Bounded) :
    (y.dir d).Bounded := by
  cases h with
  | tame h =>
    cases d with
    | imp => exact h.imp.bounded hx
    | exp => exact h.exp.bounded hx
  | cleared h => subst h; cases d <;> simp [DirState.Bounded, CircuitState.cleared, DirState.cleared, CircuitState.dir]
  | units h =>
    simp only [CircuitState.stores, Prod.mk.injEq] at h
    cases d with
    | imp => exact DirState.bounded_of_energies h.2.1 hx
    | exp => exact DirState.bounded_of_energies h.2.2 hx
  | joined p h =>
    cases d with
    | imp => exact DirState.bounded_of_energies (congrArg DirState.energies h.imp) hx
    | exp => exact DirState.bounded_of_energies (congrArg DirState.energies h.exp) hx

/-- The whole circuit table is present and each circuit satisfies a predicate. -/
def EachCircuit (P : CircuitState → Prop) (s : State) : Prop := s.circuits.length = 96 ∧ ∀ c, P (s.circ c)

/-- A predicate that the cleared state satisfies, and that every move of a circuit keeps, is kept of all circuits. -/
theorem step_keeps_each {P : CircuitState → Prop} (cleared : P .cleared)
    (moves : ∀ x y, CircuitMoves x y → P x → P y) (hs : EachCircuit P s) (h : step s = .next t) : EachCircuit P t :=
  step_keeps (P := EachCircuit P)
    (fun cause s => ⟨length_circuits_fullReset cause s, fun c => (circ_fullReset cause s c).symm ▸ cleared⟩)
    (fun s hs => by
      have circuits : (millisecond s).circuits = s.circuits := by simp
      exact ⟨circuits ▸ hs.1, fun c => circ_of_circuits circuits c ▸ hs.2 c⟩)
    (fun _ _ hs => hs)
    (fun _ _ _ h hs => ⟨h.length_circuits.trans hs.1, fun c => moves _ _ (h.circ_moves hs.1 c) (hs.2 c)⟩) hs h

/-- Settles O58: every update keeps the energies of every circuit within 48 bits. -/
theorem everyStepKeepsTheEnergyWithinBounds : Obligations.EveryStepKeepsTheEnergyWithinBounds := fun _ _ present hs h =>
  (step_keeps_each (P := fun x => ∀ d, (x.dir d).Bounded)
    (fun d => by cases d <;> simp [DirState.Bounded, CircuitState.cleared, DirState.cleared, CircuitState.dir])
    (fun _ _ moves hx d => moves.bounded d (hx d)) ⟨present, hs⟩ h).2

end Sys2Proof.Machine
end


section
/-! PROOFS. The scan order of rings and park queues (R65, R87), and the places of every block (R11 to R174). -/

namespace Sys2Proof.Machine

variable {i : Instr} {s t : State}

/-! ### Placing a sample by its scan (R66, R87) -/

theorem scansAscend_iff (l : List Half) : scansAscend l ↔ l.IsChain fun a b => older a b = true := by
  induction l with
  | nil => simp [scansAscend]
  | cons a rest ih =>
    cases rest with
    | nil => simp [scansAscend]
    | cons b rest => rw [scansAscend, ih, List.isChain_cons_cons]

theorem scansOrdered_suffix {k l : List Half} (h : k <:+ l) (hl : ScansOrdered l) : ScansOrdered k := by
  obtain ⟨distinct, ascends⟩ := hl
  rw [scansAscend_iff] at ascends
  exact ⟨distinct.sublist h.sublist, (scansAscend_iff k).mpr (ascends.suffix h)⟩

/-- Of two distinct scans, one that is not newer is older. -/
theorem older_of_not_newer {a b : Half} (distinct : a ≠ b) (h : newer a b = false) : older a b = true := by
  have hne : beyond a b ≠ 0 := (beyond_eq_zero_iff a b).not.mpr distinct
  have hlt := beyond_lt a b
  rw [← Bool.not_eq_true, newer_iff] at h
  rw [older_iff]
  omega

theorem older_of_newer {a b : Half} (h : newer a b = true) : older b a = true := by
  have ha : a.toNat < 65536 := a.isLt
  have hb : b.toNat < 65536 := b.isLt
  rw [newer_iff, beyond_eq_mod] at h
  rw [older_iff, beyond_eq_mod]
  omega

section
variable {α : Type} {scanOf : α → Half} {x : α}

theorem placeNewestFirst_perm (l : List α) : (placeNewestFirst scanOf x l).Perm (x :: l) := by
  induction l with
  | nil => exact .refl _
  | cons y ys ih =>
    unfold placeNewestFirst
    split
    · exact .refl _
    · exact (ih.cons y).trans (.swap x y ys)

theorem placeNewestFirst_chain {y : α} {ys : List α} (chain : (y :: ys).IsChain fun a b => older (scanOf b) (scanOf a) = true)
    (fresh : ∀ z ∈ ys, scanOf z ≠ scanOf x) (hy : older (scanOf x) (scanOf y) = true) :
    (y :: placeNewestFirst scanOf x ys).IsChain fun a b => older (scanOf b) (scanOf a) = true := by
  induction ys generalizing y with
  | nil => exact .cons_cons hy (.singleton x)
  | cons z zs ih =>
    rw [List.isChain_cons_cons] at chain
    unfold placeNewestFirst
    split
    · next hnew => exact .cons_cons hy (.cons_cons (older_of_newer hnew) chain.2)
    · next hnew =>
      have hz : older (scanOf x) (scanOf z) = true :=
        older_of_not_newer (fun h => fresh z List.mem_cons_self h.symm) (by simpa using hnew)
      exact .cons_cons chain.1 (ih chain.2 (fun w hw => fresh w (List.mem_cons_of_mem z hw)) hz)

theorem placeByScan_perm (l : List α) : (placeByScan scanOf x l).Perm (x :: l) := by
  unfold placeByScan
  exact (List.reverse_perm _).trans ((placeNewestFirst_perm _).trans ((List.reverse_perm l).cons x))

/-- A sample whose scan is new keeps the order of a list it is placed in. -/
theorem placeByScan_ordered {l : List α} (ordered : ScansOrdered (l.map scanOf)) (fresh : ∀ y ∈ l, scanOf y ≠ scanOf x) :
    ScansOrdered ((placeByScan scanOf x l).map scanOf) := by
  obtain ⟨distinct, ascends⟩ := ordered
  rw [scansAscend_iff, List.isChain_map] at ascends
  refine ⟨?_, ?_⟩
  · rw [((placeByScan_perm l).map scanOf).nodup_iff, List.map_cons, List.nodup_cons]
    exact ⟨by simpa using fun y hy => fresh y hy, distinct⟩
  · rw [scansAscend_iff, List.isChain_map, placeByScan, List.isChain_reverse]
    have chain : l.reverse.IsChain fun a b => older (scanOf b) (scanOf a) = true := List.isChain_reverse.mpr ascends
    have fresh : ∀ z ∈ l.reverse, scanOf z ≠ scanOf x := by simpa using fresh
    cases hl : l.reverse with
    | nil => exact .singleton x
    | cons y ys =>
      rw [hl] at chain fresh
      unfold placeNewestFirst
      split
      · next hnew => exact .cons_cons (older_of_newer hnew) chain
      · next hnew =>
        exact placeNewestFirst_chain chain (fun z hz => fresh z (List.mem_cons_of_mem y hz))
          (older_of_not_newer (fun h => fresh y List.mem_cons_self h.symm) (by simpa using hnew))

end

theorem ringStore_eq (ring : List RingSample) (x : RingSample) :
    ringStore ring x = if 32 ≤ ring.length then (placeByScan RingSample.scan x ring).tail
      else placeByScan RingSample.scan x ring := by
  have places : Config.ringPlaces = 32 := rfl
  unfold ringStore
  dsimp only
  rw [(placeByScan_perm ring).length_eq, List.length_cons, places]
  exact if_congr (by omega) rfl rfl

/-- A stored sample keeps the ring in scan order (R65, R66). -/
theorem ringStore_ordered {ring : List RingSample} {x : RingSample} (ordered : ScansOrdered (ring.map RingSample.scan))
    (fresh : ∀ y ∈ ring, y.scan ≠ x.scan) : ScansOrdered ((ringStore ring x).map RingSample.scan) := by
  have placed := placeByScan_ordered ordered fresh
  rw [ringStore_eq]
  split
  · exact scansOrdered_suffix ((List.tail_suffix _).map _) placed
  · exact placed

theorem parkInto_ordered {q : List Parked} {x : Parked} (ordered : ScansOrdered (q.map Parked.scan))
    (fresh : ∀ y ∈ q, y.scan ≠ x.scan) : ScansOrdered ((parkInto x q).map Parked.scan) := by
  unfold parkInto
  split
  · exact placeByScan_ordered (scansOrdered_suffix ((List.tail_suffix q).map _) ordered)
      fun y hy => fresh y (List.mem_of_mem_tail hy)
  · exact placeByScan_ordered ordered fresh

theorem CircuitMoves.park_cases {x y : CircuitState} (h : CircuitMoves x y) :
    y.park <:+ x.park ∨ ∃ p, (∀ z ∈ x.park, z.scan ≠ p.scan) ∧ y.park = parkInto p x.park := by
  cases h with
  | tame h => exact .inl h.park
  | cleared h => exact .inl (h ▸ List.nil_suffix)
  | units h =>
    have park : y.park = x.park := congrArg Prod.fst h
    exact .inl (park ▸ List.suffix_rfl)
  | joined p h => exact .inr ⟨p, h.fresh, h.park⟩

/-! ### The references -/

/-- What an update can make of the rings: a ring is emptied, is that of a reference before, or has taken a new sample. -/
theorem Update.ring_cases (h : Update i s t) (present : s.refs.length = 16) :
    ∀ q ∈ t.refs, q.ring = [] ∨ (∃ p ∈ s.refs, q.ring = p.ring) ∨
      ∃ p ∈ s.refs, ∃ x, (∀ y ∈ p.ring, y.scan ≠ x.scan) ∧ q.ring = ringStore p.ring x := by
  have same {t : State} (refs : t.refs = s.refs) : ∀ q ∈ t.refs, q.ring = [] ∨ (∃ p ∈ s.refs, q.ring = p.ring) ∨
      ∃ p ∈ s.refs, ∃ x, (∀ y ∈ p.ring, y.scan ≠ x.scan) ∧ q.ring = ringStore p.ring x :=
    fun q hq => .inr (.inl ⟨q, refs ▸ hq, rfl⟩)
  cases h with
  | references g _ rings => exact fun q hq => (rings q hq).imp_right .inl
  | stores r x fresh =>
    intro q hq
    have hr : s.ref r ∈ s.refs := by simp [State.ref, List.getD_eq_getElem?_getD, present]
    obtain hq | rfl := List.mem_or_eq_of_mem_set hq
    · exact .inr (.inl ⟨q, hq, rfl⟩)
    · exact .inr (.inr ⟨s.ref r, hr, x, fresh, rfl⟩)
  | closesCircuit p e => exact same (by simp)
  | _ => exact same (by simp)

theorem Update.length_refs (h : Update i s t) : t.refs.length = s.refs.length := by
  have same {t : State} (refs : t.refs = s.refs) : t.refs.length = s.refs.length := by rw [refs]
  cases h with
  | references g length => exact length
  | stores => exact State.onRef_length _ _ _
  | closesCircuit p e => exact same (by simp)
  | _ => exact same (by simp)

/-- Every reference is present and each ring satisfies a predicate. -/
def EachRing (P : List RingSample → Prop) (s : State) : Prop := s.refs.length = 16 ∧ ∀ q ∈ s.refs, P q.ring

/-- A predicate of rings that the empty ring satisfies and the storing of a new sample keeps is kept of every ring. -/
theorem step_keeps_rings {P : List RingSample → Prop} (empty : P [])
    (stores : ∀ ring x, P ring → (∀ y ∈ ring, y.scan ≠ x.scan) → P (ringStore ring x)) (hs : EachRing P s)
    (h : step s = .next t) : EachRing P t :=
  step_keeps (P := EachRing P)
    (fun cause s => ⟨by simp [fullReset, State.afterReset], fun q hq => by
      rw [List.eq_of_mem_replicate hq]
      exact empty⟩)
    (fun s hs => by
      have refs : (millisecond s).refs = s.refs := by simp
      rwa [EachRing, refs])
    (fun _ _ hs => hs)
    (fun _ _ _ h hs => ⟨h.length_refs.trans hs.1, fun q hq => by
      obtain h | ⟨p, hp, h⟩ | ⟨p, hp, x, fresh, h⟩ := h.ring_cases hs.1 q hq <;> rw [h]
      · exact empty
      · exact hs.2 p hp
      · exact stores _ _ (hs.2 p hp) fresh⟩) hs h

theorem forall_mem_circuits_iff {P : CircuitState → Prop} (present : s.circuits.length = 96) :
    (∀ x ∈ s.circuits, P x) ↔ ∀ c, P (s.circ c) := by
  constructor
  · intro h c
    exact h _ (by simp [State.circ, List.getD_eq_getElem?_getD, present])
  · intro h x hx
    obtain ⟨n, hn, rfl⟩ := List.getElem_of_mem hx
    simpa [State.circ, List.getD_eq_getElem?_getD, hn] using h ⟨n, present ▸ hn⟩

/-- A predicate of park queues that the empty queue satisfies, and that losing the oldest samples and joining a new one keep,
is kept of every park queue. -/
theorem step_keeps_parks {P : List Parked → Prop} (empty : P []) (suffix : ∀ q l, q <:+ l → P l → P q)
    (joins : ∀ q x, P q → (∀ y ∈ q, y.scan ≠ x.scan) → P (parkInto x q)) (present : s.circuits.length = 96)
    (hs : ∀ x ∈ s.circuits, P x.park) (h : step s = .next t) : t.circuits.length = 96 ∧ ∀ x ∈ t.circuits, P x.park := by
  rw [forall_mem_circuits_iff present] at hs
  obtain ⟨present', ht⟩ := step_keeps_each (P := fun x => P x.park) empty (fun x y moves hx => by
    obtain h | ⟨p, fresh, h⟩ := moves.park_cases
    · exact suffix _ _ h hx
    · exact h ▸ joins _ _ hx fresh) ⟨present, hs⟩ h
  exact ⟨present', (forall_mem_circuits_iff present').mpr ht⟩

/-- Settles O54: a ring or a park queue changes only by losing its oldest samples, by being emptied, or by placing a sample
whose scan it does not hold. -/
theorem everyStepKeepsTheScansInOrder : Obligations.EveryStepKeepsTheScansInOrder := by
  intro s t circuits refs ⟨rings, parks⟩ h
  have empty : ScansOrdered [] := ⟨List.nodup_nil, trivial⟩
  exact ⟨(step_keeps_rings (P := fun l => ScansOrdered (l.map RingSample.scan)) empty
      (fun _ _ => ringStore_ordered) ⟨refs, rings⟩ h).2,
    (step_keeps_parks (P := fun l => ScansOrdered (l.map Parked.scan)) empty
      (fun _ _ h => scansOrdered_suffix (h.map _)) (fun _ _ => parkInto_ordered) circuits parks h).2⟩

/-! ### The places of the queues -/

/-- What every step of a fold keeps, the fold keeps. -/
theorem foldl_preserves {α : Type} {P : State → Prop} {f : State → α → State} (h : ∀ s x, P s → P (f s x)) (l : List α)
    {s : State} (hs : P s) : P (l.foldl f s) := by
  induction l generalizing s with
  | nil => exact hs
  | cons x rest ih => exact ih (h s x hs)

theorem Update.keeps_buffers (h : Update i s t) (hs : s.links.up.length ≤ 4 ∧ s.links.down.length ≤ 4) :
    t.links.up.length ≤ 4 ∧ t.links.down.length ≤ 4 := by
  have same {t : State} (up : t.links.up = s.links.up) (down : t.links.down = s.links.down) :
      t.links.up.length ≤ 4 ∧ t.links.down.length ≤ 4 := by rwa [up, down]
  have retired (n : Nat) : (retire n s).links.up = s.links.up ∧ (retire n s).links.down = s.links.down := by
    unfold retire
    dsimp only
    split <;> simp [orphanTx]
  cases h with
  | links f up down => exact ⟨up hs.1, down hs.2⟩
  | sendsTally => exact same rfl rfl
  | retires n => exact same (retired n).1 (retired n).2
  | closes => exact same rfl rfl
  | restoring => exact same rfl rfl
  | closesCircuit => exact same (by simp) (by simp)
  | _ => exact same (by simp) (by simp)

theorem Update.keeps_meteringPlaces (h : Update i s t) (hs : s.engine.queue.length ≤ 8) : t.engine.queue.length ≤ 8 := by
  have same {t : State} (queue : t.engine.queue = s.engine.queue) : t.engine.queue.length ≤ 8 := by rwa [queue]
  have retired (n : Nat) : (retire n s).engine.queue = s.engine.queue := by
    unfold retire
    dsimp only
    split <;> simp [placeClaim]
  cases h with
  | engine f queue => exact queue hs
  | faults => simp [faultPlan]
  | retires n => exact same (retired n)
  | places | placesClear | restoring | takesClaim | releases | restores | clears =>
    exact same (by simp [placeClaim, dropClaim])
  | _ => exact same (by simp)

theorem Update.keeps_reportPlaces (h : Update i s t) (hs : s.session.queue.length ≤ 16) :
    t.session.queue.length ≤ 16 := by
  have same {t : State} (session : t.session.queue = s.session.queue) : t.session.queue.length ≤ 16 := by rwa [session]
  have joined {r : Record} (accepts : builderAccepts s = true) : (s.session.queue ++ [r]).length ≤ 16 := by
    rw [List.length_append, List.length_singleton]
    exact ((builderAccepts_iff s).mp accepts).2
  have retired (n : Nat) : (retire n s).session.queue = s.session.queue.drop n := by
    unfold retire
    dsimp only
    split <;> simp
  cases h with
  | session f kept =>
    have length := congrArg List.length kept.content
    simp only [List.length_map] at length
    exact length.trans_le hs
  | tallySent => simpa [Machine.tallySent] using hs
  | resumes => simpa [markResend] using hs
  | retires n => rw [retired, List.length_drop]; omega
  | closes => exact Nat.zero_le _
  | restoring => exact Nat.zero_le _
  | records accepts =>
    generalize visitAll s = run
    exact joined accepts
  | appends accepts => exact joined accepts
  | opens => exact same rfl
  | holds => exact same rfl
  | _ => exact same (by simp)

theorem Update.keeps_closingPlaces (h : Update i s t) (hs : s.builder.closings.length ≤ 8) :
    t.builder.closings.length ≤ 8 := by
  have same {t : State} (builder : t.builder.closings = s.builder.closings) : t.builder.closings.length ≤ 8 := by
    rwa [builder]
  have mapped (f : Closing → Closing) : (s.builder.closings.map f).length ≤ 8 := by rwa [List.length_map]
  have retired (n : Nat) : (retire n s).builder.closings.length ≤ s.builder.closings.length := by
    unfold retire
    dsimp only
    split <;> simpa using List.length_filter_le _ _
  cases h with
  | closesCircuit p c _ _ _ room =>
    rw [closeCircuit_closings, List.length_append, List.length_singleton]
    exact room
  | builder f closings =>
    have length := closings.length_le
    simp only [List.length_map] at length
    exact length.trans hs
  | retires n => exact (retired n).trans hs
  | closes => exact mapped _
  | restoring => exact mapped _
  | records =>
    generalize visitAll s = run
    exact mapped _
  | appends => exact hs
  | opens => exact same rfl
  | clears => simp [clearMetering]
  | _ => exact same (by simp)

/-- The command queue and the response queue within their places. -/
def AgentFits (a : Agent) : Prop := a.queue.length ≤ 4 ∧ a.responses.length ≤ 4

theorem completeHeld_agentFits (h : Held) (st : Status) (results : List Byte) (s : State) (hs : AgentFits s.agent) :
    AgentFits (completeHeld h st results s).agent := by
  have places : Config.responsePlaces = 4 := rfl
  unfold completeHeld complete completeAs
  split
  · split
    · exact hs
    · simp only [formResponse, State.onAgent_agent]
      split
      · exact ⟨tail_length_le _ hs.1, by rw [List.length_append, List.length_singleton]; omega⟩
      · exact hs
  · exact hs

theorem Update.keeps_agentFits (h : Update i s t) (hs : AgentFits s.agent) : AgentFits t.agent := by
  have same {t : State} (agent : t.agent = s.agent) : AgentFits t.agent := by rwa [agent]
  cases h with
  | agent f commands responses => exact ⟨commands hs.1, responses hs.2⟩
  | restoring => exact hs
  | placesClear => exact hs
  | clears => exact completeHeld_agentFits _ _ _ _ (by simpa using hs)
  | closesCircuit => exact same (by simp)
  | _ => exact same (by simp)

theorem post_eventPlaces (k : EventKind) (a : Half) (v : Word) (s : State) (hs : s.events.queue.length ≤ 32) :
    (post k a v s).events.queue.length ≤ 32 := length_posted k a v _ _ hs

theorem postUnblockedBoth_eventPlaces (c : Fin 96) (x : CircuitState) (s : State) (hs : s.events.queue.length ≤ 32) :
    (postUnblockedBoth c x s).events.queue.length ≤ 32 := by
  unfold postUnblockedBoth
  dsimp only
  have first : (if x.imp.blocked then postUnblocked c .imp s else s).events.queue.length ≤ 32 := by
    split
    · exact post_eventPlaces _ _ _ _ hs
    · exact hs
  split
  · exact post_eventPlaces _ _ _ _ first
  · exact first

theorem Update.keeps_eventPlaces (h : Update i s t) (hs : s.events.queue.length ≤ 32) : t.events.queue.length ≤ 32 := by
  have same {t : State} (events : t.events = s.events) : t.events.queue.length ≤ 32 := by rwa [events]
  cases h with
  | events f places => exact places hs
  | faults => exact post_eventPlaces _ _ _ _ hs
  | commitsPart new => unfold commitPartState; split <;> exact hs
  | closesCircuit p c => exact postUnblockedBoth_eventPlaces _ _ _ hs
  | retires n => exact same (by simp)
  | releases us =>
    refine foldl_preserves (P := fun t : State => t.events.queue.length ≤ 32) (fun t u ht => ?_) us (by simpa using hs)
    unfold unblockTest
    dsimp only
    split
    · exact post_eventPlaces _ _ _ _ ht
    · exact ht
  | clears =>
    have events : (clearMetering (dropClaim s)).events = (allCircuits.foldl clearCircuit (dropClaim s)).events := by
      simp [clearMetering]
    rw [events]
    generalize allCircuits = all
    exact foldl_preserves (P := fun t : State => t.events.queue.length ≤ 32) (f := clearCircuit)
      (fun t c ht => postUnblockedBoth_eventPlaces c (t.circ c) _ ht) all (by simpa using hs)
  | _ => exact same (by simp)

/-! ### The capacities together -/

theorem length_parkInto {x : Parked} {q : List Parked} (h : q.length ≤ 8) : (parkInto x q).length ≤ 8 := by
  unfold parkInto
  rw [(placeByScan_perm _).length_eq, List.length_cons]
  split
  · rw [List.length_tail]; omega
  · omega

theorem length_ringStore {x : RingSample} {ring : List RingSample} (h : ring.length ≤ 32) :
    (ringStore ring x).length ≤ 32 := by
  rw [ringStore_eq]
  split
  · rw [List.length_tail, (placeByScan_perm _).length_eq, List.length_cons]; omega
  · rw [(placeByScan_perm _).length_eq, List.length_cons]; omega

/-- The places of every queue but the rings and the park queues. -/
structure QueuePlaces (s : State) : Prop where
  buffers : s.links.up.length ≤ 4 ∧ s.links.down.length ≤ 4
  metering : s.engine.queue.length ≤ 8
  reports : s.session.queue.length ≤ 16
  closings : s.builder.closings.length ≤ 8
  agent : AgentFits s.agent
  events : s.events.queue.length ≤ 32

theorem step_keeps_queuePlaces (hs : QueuePlaces s) (h : step s = .next t) : QueuePlaces t :=
  step_keeps (P := QueuePlaces)
    (fun cause s => by constructor <;> simp [fullReset, State.afterReset, Links.reset, Engine.reset, Session.reset,
      Builder.reset, AgentFits, Agent.reset, Events.reset])
    (fun s hs => ⟨by simpa using hs.buffers, by simpa using hs.metering, by simpa using hs.reports,
      by simpa using hs.closings, by simpa [AgentFits] using hs.agent, by simpa using hs.events⟩)
    (fun _ _ hs => ⟨hs.buffers, hs.metering, hs.reports, hs.closings, hs.agent, hs.events⟩)
    (fun _ _ _ h hs => ⟨h.keeps_buffers hs.buffers, h.keeps_meteringPlaces hs.metering, h.keeps_reportPlaces hs.reports,
      h.keeps_closingPlaces hs.closings, h.keeps_agentFits hs.agent, h.keeps_eventPlaces hs.events⟩) hs h

/-- Settles O52: every queue by its own updates, the rings and the park queues by the places of their samples. -/
theorem everyStepKeepsTheCapacities : Obligations.EveryStepKeepsTheCapacities := by
  intro s t hs h
  obtain ⟨buffers, metering, reports, closings, agent, events⟩ := step_keeps_queuePlaces
    ⟨⟨hs.up, hs.down⟩, hs.metering, hs.reports, hs.closings, ⟨hs.commands, hs.responses⟩, hs.events⟩ h
  obtain ⟨references, rings⟩ := step_keeps_rings (P := fun l => l.length ≤ 32) (Nat.zero_le _)
    (fun _ _ hl _ => length_ringStore hl) ⟨hs.references, hs.rings⟩ h
  obtain ⟨circuits, parks⟩ := step_keeps_parks (P := fun l => l.length ≤ 8) (Nat.zero_le _)
    (fun _ _ suffix hl => suffix.length_le.trans hl) (fun _ _ hl _ => length_parkInto hl) hs.circuits hs.parks h
  exact ⟨buffers.1, buffers.2, metering, reports, closings, agent.1, agent.2, events, circuits, references, parks, rings⟩

end Sys2Proof.Machine
end


section
/-! PROOFS. PASSIVE and DEFECT end only by a reset (R189, R190). -/

namespace Sys2Proof.Machine

variable {i : Instr} {s t : State}

/-! ### The order of claims -/

theorem nextClaim_some {k : Claim} (h : nextClaim s = some k) :
    s.engine.metering = none ∧ ∃ rest, s.engine.claims = k :: rest := by
  unfold nextClaim atBoundary at h
  split at h
  · next boundary =>
    obtain ⟨rest, claims⟩ := List.head?_eq_some_iff.mp h
    exact ⟨Option.isNone_iff_eq_none.mp boundary, rest, claims⟩
  · contradiction

/-- The claim that retired records place, if any carries units (R144). -/
theorem claims_retire (n : Nat) (s : State) : (retire n s).engine.claims =
    if unitsOf (s.session.queue.take n) = [] then s.engine.claims
    else s.engine.claims ++ [.ackRelease (unitsOf (s.session.queue.take n))] := by
  unfold retire
  dsimp only
  split <;> simp [placeClaim]

/-! ### DEFECT -/

/-- What an update of a command other than COMMIT_BOUNDARY can make of the waiting commit boundary claims of a part in
DEFECT: it adds none. -/
theorem Update.keeps_noCommit (h : Update i s t) (defect : s.part.state = .defect)
    (hs : ∀ check, Claim.commitBoundary check ∉ s.engine.claims) : ∀ check, Claim.commitBoundary check ∉ t.engine.claims := by
  have same {t : State} (claims : t.engine.claims = s.engine.claims) :
      ∀ check, Claim.commitBoundary check ∉ t.engine.claims := by rwa [claims]
  have fewer {t : State} (claims : t.engine.claims = s.engine.claims.tail) :
      ∀ check, Claim.commitBoundary check ∉ t.engine.claims := by
    rw [claims]
    exact fun check h => hs check (List.mem_of_mem_tail h)
  have added {t : State} (k : Claim) (claims : t.engine.claims = s.engine.claims ++ [k])
      (other : ∀ check, k ≠ .commitBoundary check) : ∀ check, Claim.commitBoundary check ∉ t.engine.claims := by
    rw [claims]
    intro check h
    rw [List.mem_append, List.mem_singleton] at h
    exact h.elim (hs check) fun h => other check h.symm
  cases h with
  | engine f _ claims => exact same claims
  | places k _ _ commit => exact added k rfl fun check h => commit check h defect
  | placesClear => exact added .meteringClear rfl (by simp)
  | restoring => exact added (.sessionRestore _) (by simp [placeClaim]; rfl) (by simp)
  | retires n =>
    have claims := claims_retire n s
    split at claims
    · exact same claims
    · exact added _ claims (by simp)
  | takesClaim | releases | restores | clears => exact fewer (by simp [dropClaim])
  | faults => exact same (by simp [faultPlan])
  | closesCircuit => exact same (by simp)
  | _ => exact same (by simp)

/-- No update of a command other than COMMIT_BOUNDARY leads out of DEFECT. -/
theorem Update.keeps_defect (h : Update i s t) (other : i ≠ .commitBoundary) (fits : ScrubberFits s)
    (defect : s.part.state = .defect) : t.part.state = .defect := by
  have same {t : State} (part : t.part.state = s.part.state) : t.part.state = .defect := part.trans defect
  cases h with
  | starts straps bypass => exact absurd (defect.symm.trans bypass) (by simp)
  | selfChecked next passed starting => exact absurd (defect.symm.trans starting) (by simp)
  | faults computed position check running =>
    have stopped := fits.mpr (by simp [defect])
    exact absurd (stopped.symm.trans running) (by simp)
  | commitsPart new only => exact absurd only other
  | closesCircuit p c only => exact absurd only other
  | _ => exact same (by simp)

theorem exec_defect (fits : ScrubberFits s) (hs : DefectHolds s) (h : exec i s = .next t) :
    DefectHolds t ∨ t.part.state = .bypass := by
  by_cases commit : i = .commitBoundary
  · have stays : exec i s = .next s := by
      subst commit
      show execCommitBoundary s = .next s
      unfold execCommitBoundary
      split
      · next check next =>
        obtain ⟨-, rest, claims⟩ := nextClaim_some next
        exact absurd List.mem_cons_self (claims ▸ hs.2 check)
      · rfl
    rw [stays] at h
    cases h
    exact .inl hs
  · obtain ⟨cause, rfl⟩ | updates := exec_cases h
    · exact .inr rfl
    · have kept := updates.keeps (P := fun s => ScrubberFits s ∧ DefectHolds s)
        (fun s t h hs => ⟨h.keeps_scrubber hs.1, h.keeps_defect commit hs.1 hs.2.1, h.keeps_noCommit hs.2.1 hs.2.2⟩)
        ⟨fits, hs⟩
      exact .inl kept.2

/-! ### PASSIVE -/

/-- A command's outcome keeps a part in PASSIVE at its reset values, or is a reset. -/
def PassiveNext (r : Result) : Prop := ∃ t, r = .next t ∧ (PassiveKeeps t ∨ t.part.state = .bypass)

theorem PassiveNext.keeps (h : PassiveKeeps t) : PassiveNext (.next t) := ⟨t, rfl, .inl h⟩

theorem PassiveNext.ofReset (cause : ResetCause) (s : State) : PassiveNext (.next (fullReset cause s)) :=
  ⟨_, rfl, .inr rfl⟩

theorem PassiveNext.ofOccurs {b : Bool} (hs : PassiveKeeps s) (h : b = true → PassiveNext (.next t)) :
    PassiveNext (occurs b s t) := by
  cases b with
  | false => exact .keeps hs
  | true => exact h rfl

namespace PassiveKeeps

/-- An update of the links that begins no other transmission at Head transmit than a forwarded frame's. -/
theorem onLinks (hs : PassiveKeeps s) (f : Links → Links) (tx : ∀ x ∈ (f s.links).headTx, x.source = .forward) :
    PassiveKeeps (s.onLinks f) :=
  ⟨hs.state, hs.sync, hs.engine, hs.circuits, hs.refs, hs.shadow, hs.pass, hs.builder, hs.session, hs.agent, hs.events, tx⟩

theorem onPort (hs : PassiveKeeps s) (p : PortId) (f : Port → Port) : PassiveKeeps (s.onPort p f) :=
  hs.onLinks _ (by cases p <;> exact hs.headTx)

theorem takesPart_false (hs : PassiveKeeps s) : takesPart s = false := by simp [takesPart, takesIn, hs.state]

/-- The event queue of a part in PASSIVE takes no posting (R172). -/
theorem post_eq (hs : PassiveKeeps s) (k : EventKind) (a : Half) (v : Word) : post k a v s = s := by
  simp [post, State.onEvents, posted, takesIn, hs.state]

theorem noteCopy_eq (hs : PassiveKeeps s) (n : Option Nat) (fate : CopyFate) : noteCopy n fate s = s := by
  have none : s.agent.queue = [] := by simp [hs.agent, Agent.reset]
  have agent : { s.agent with queue := [] } = s.agent := by rw [← none]
  simp [noteCopy, State.onAgent, none, agent]

theorem beginning_none (hs : PassiveKeeps s) : beginning s = none := by simp [beginning, hs.agent, Agent.reset]

theorem begins_stays (hs : PassiveKeeps s) (k : CommandCode) (body : Command → State → State) :
    PassiveNext (begins k body s) := by
  rw [begins, hs.beginning_none]
  exact .keeps hs

theorem nextClaim_none (hs : PassiveKeeps s) : nextClaim s = none := by
  simp [nextClaim, hs.engine, Engine.reset]

theorem nextSample_none (hs : PassiveKeeps s) : nextSample s = none := by simp [nextSample, hs.engine, Engine.reset]

theorem closed (hs : PassiveKeeps s) : s.session.state = .closed := by simp [hs.session, Session.reset]

theorem abortTx (hs : PassiveKeeps s) (p : PortId) : PassiveKeeps (abortTx p s) := by
  cases p with
  | field =>
    unfold Machine.abortTx abortField
    dsimp only
    split
    · rw [hs.noteCopy_eq]
      exact (hs.onLinks _ hs.headTx).onPort _ _
    · exact hs
  | head =>
    unfold Machine.abortTx abortHead
    dsimp only
    split
    · exact hs
    · next tx htx =>
      rw [hs.headTx tx htx, abortSource]
      exact ((hs.onLinks _ hs.headTx).onLinks _ (by simp)).onPort _ _

theorem leaveUp (hs : PassiveKeeps s) (p : PortId) (state : PortState) (line : Line) (v : Word) :
    PassiveKeeps (leaveUp p state line v s) := by
  unfold Machine.leaveUp
  dsimp only
  rw [if_neg (by simp [hs.closed])]
  have left := ((hs.onPort p discardReception).abortTx p).onPort p fun q =>
    { q with state := state, line := line, qualified := none,
             counters := { q.counters with linkDowns := q.counters.linkDowns + 1 } }
  rw [left.post_eq]
  exact left

theorem enterBreak (hs : PassiveKeeps s) (p : PortId) : PassiveKeeps (enterBreak p s) :=
  (hs.onPort p _).onLinks _ (by cases p <;> exact hs.headTx)

theorem loseLink (hs : PassiveKeeps s) (p : PortId) (k : LinkLoss) : PassiveKeeps (loseLink p k s) := by
  cases k with
  | signal => exact hs.leaveUp p _ _ _
  | break_ => exact (hs.leaveUp p _ _ _).enterBreak p

theorem enterUp (hs : PassiveKeeps s) (p : PortId) : PassiveKeeps (enterUp p s) := by
  unfold Machine.enterUp
  dsimp only
  rw [if_neg (by simp [hs.closed]), (hs.onPort p _).post_eq]
  exact hs.onPort p _

theorem offerUp (hs : PassiveKeeps s) (f : Frame) : PassiveKeeps (offerUp f s) := by
  unfold Machine.offerUp
  split
  · exact hs.onLinks _ hs.headTx
  · exact hs.onPort _ _

theorem offerDown (hs : PassiveKeeps s) (f : DownFrame) : PassiveKeeps (offerDown f s) := by
  unfold Machine.offerDown
  split
  · exact hs.onLinks _ hs.headTx
  · exact hs.onPort _ _

/-- In PASSIVE a good frame is forwarded and nothing else (R10). -/
theorem goodArrival (hs : PassiveKeeps s) (p : PortId) (f : Frame) : PassiveKeeps (goodArrival p f s) := by
  cases p with
  | field =>
    show PassiveKeeps (fieldFrame f s)
    rw [fieldFrame, if_neg (by simp [hs.takesPart_false])]
    exact hs.offerUp f
  | head =>
    show PassiveKeeps (headFrame f s)
    rw [headFrame, if_pos (by simp [hs.takesPart_false])]
    exact hs.offerDown _

theorem endReception (hs : PassiveKeeps s) (p : PortId) : PassiveKeeps (endReception p s) := by
  unfold Machine.endReception
  split
  · unfold checkReception
    dsimp only
    split
    · exact (hs.onPort p _).onPort p _
    · split
      · exact (hs.onPort p _).onPort p _
      · exact ((hs.onPort p _).onPort p _).goodArrival p _
  · exact hs
  · exact hs

theorem frameEnd (hs : PassiveKeeps s) (ending : FrameEnding) : PassiveNext (execFrameEnd ending s) := by
  have noAck (p : PortId) : ackEnding p s = none := by
    unfold ackEnding
    split
    · simp [hs.takesPart_false]
    · rfl
  refine .ofOccurs hs fun _ => .keeps ?_
  split
  · exact hs.endReception _
  · rw [noAck]
    exact (hs.endReception _).loseLink _ _

theorem choose (hs : PassiveKeeps s) : PassiveKeeps (choose s) := by
  have noResponse : s.agent.responses = [] := by simp [hs.agent, Agent.reset]
  have noOwn : ownWaiting s = false := by
    simp [ownWaiting, Session.eligible, hs.session, Session.reset, hs.events, Events.reset]
  unfold Machine.choose
  rw [noResponse, noOwn]
  dsimp only
  split
  · exact hs
  · next f _ _ =>
    have served := hs.onLinks (fun l => { l with lastServed := .forward }) hs.headTx
    exact served.onLinks (fun l => { l with headTx := some ⟨.forward, f⟩ }) (by simp)

theorem transmissionComplete (hs : PassiveKeeps s) (p : PortId) : PassiveNext (execTransmissionComplete p s) := by
  have waitsForNone (n : Option Nat) : copyResets s n = false := by simp [copyResets, hs.agent, Agent.reset]
  cases p with
  | field =>
    refine .keeps ?_
    unfold completeField
    rw [waitsForNone, hs.noteCopy_eq]
    split
    · exact (hs.onLinks _ hs.headTx).onPort _ _
    · exact hs
  | head =>
    refine .keeps ?_
    unfold completeHead
    split
    · exact hs
    · next tx htx =>
      have idle := (hs.onLinks (fun l => { l with headTx := none }) (by simp)).onPort .head
        (Port.count fun k => { k with transmitted := k.transmitted + 1 })
      rw [hs.headTx tx htx]
      exact idle.onLinks (fun l => { l with up := l.up.tail }) idle.headTx

theorem breakRelease (hs : PassiveKeeps s) (p : PortId) (signalAfter : Bool) :
    PassiveNext (execBreakRelease p signalAfter s) := by
  unfold execBreakRelease
  split
  · exact .keeps ((hs.onPort p _).onLinks _ (by cases p <;> exact hs.headTx))
  · exact .ofOccurs hs fun _ => .keeps (hs.onPort p _)
  · exact .keeps hs

theorem signalLoss (hs : PassiveKeeps s) (p : PortId) : PassiveNext (execSignalLoss p s) := by
  unfold execSignalLoss
  split
  · exact .keeps (hs.loseLink p _)
  · exact .ofOccurs hs fun _ => .keeps (hs.onPort p _)
  · exact .keeps hs

theorem breakOnset (hs : PassiveKeeps s) (p : PortId) : PassiveNext (execBreakOnset p s) := by
  unfold execBreakOnset
  split
  · exact .keeps (hs.loseLink p _)
  · split
    · exact .keeps (hs.enterBreak p)
    · exact .keeps (hs.onPort p _)
  · exact .keeps hs

theorem frameOctet (hs : PassiveKeeps s) (p : PortId) (octet : Byte) : PassiveNext (execFrameOctet p octet s) := by
  unfold execFrameOctet
  split
  · refine .ofOccurs hs fun _ => .keeps ?_
    split
    · exact hs.onPort p _
    · exact hs.onPort p _
  · exact .keeps hs
  · exact .keeps hs

theorem giantFrame (hs : PassiveKeeps s) (p : PortId) : PassiveNext (execGiantFrame p s) := by
  unfold execGiantFrame
  split
  · exact .ofOccurs hs fun _ => .keeps (hs.onPort p _)
  · exact .keeps hs
  · exact .keeps hs

/-- A disturbance reaches the active bank alone (R61). -/
theorem disturbed (hs : PassiveKeeps s) (contents : PlanContents) (check : Word) (n : Nat) :
    PassiveNext (execStorageDisturbance contents check n s) :=
  .ofOccurs hs fun _ => .keeps
    ⟨hs.state, hs.sync, hs.engine, hs.circuits, hs.refs, hs.shadow, ⟨(advancePass_stopped_iff _ _).mpr hs.pass.1, hs.pass.2⟩,
      hs.builder, hs.session, hs.agent, hs.events, hs.headTx⟩

/-- What does not happen in PASSIVE leaves the state. -/
theorem never (hs : PassiveKeeps s) {b : Bool} (h : b = false) : PassiveNext (occurs b s t) :=
  .ofOccurs hs fun hb => absurd (hb.symm.trans h) (by simp)

theorem exec (hs : PassiveKeeps s) (i : Instr) : PassiveNext (exec i s) := by
  have noClaim := hs.nextClaim_none
  have noSample := hs.nextSample_none
  have noPass := hs.pass.1
  have notBypass (cause : ResetCause) : bypassFor cause s = false := by simp [bypassFor, hs.state]
  cases i with
  | signalReturn p => exact .ofOccurs hs fun _ => .keeps (hs.onPort p _)
  | linkUp p => exact .ofOccurs hs fun _ => .keeps (hs.enterUp p)
  | signalLoss p => exact hs.signalLoss p
  | breakOnset p => exact hs.breakOnset p
  | breakRelease p signalAfter => exact hs.breakRelease p signalAfter
  | breakTimerExpiry => exact .ofOccurs hs fun _ => .ofReset .break_ s
  | frameStart p => exact .ofOccurs hs fun _ => .keeps (hs.onPort p _)
  | giantFrame p => exact hs.giantFrame p
  | frameEnd ending => exact hs.frameEnd ending
  | fieldTransmitBegin => exact .ofOccurs hs fun _ => .keeps (hs.onLinks _ hs.headTx)
  | headTransmitChoice => exact .ofOccurs hs fun _ => .keeps hs.choose
  | transmissionComplete p => exact hs.transmissionComplete p
  | syncTimerExpiry => exact hs.never (by simp [hs.sync, Sync.reset, expires])
  | frameBegin =>
    have stays : execFrameBegin s = .next s := by simp [execFrameBegin, hs.engine, Engine.reset]
    exact ⟨s, stays, .inl hs⟩
  | unmappedSample => exact ⟨s, by simp [Machine.exec, execUnmappedSample, noSample], .inl hs⟩
  | voltageSample => exact ⟨s, by simp [Machine.exec, execVoltageSample, noSample], .inl hs⟩
  | currentSample => exact ⟨s, by simp [Machine.exec, execCurrentSample, noSample], .inl hs⟩
  | frameMetered =>
    have stays : execFrameMetered s = .next s := by simp [execFrameMetered, hs.engine, Engine.reset]
    exact ⟨s, stays, .inl hs⟩
  | epochFlush => exact ⟨s, by simp [Machine.exec, execEpochFlush, noClaim], .inl hs⟩
  | commitBoundary => exact ⟨s, by simp [Machine.exec, execCommitBoundary, noClaim], .inl hs⟩
  | builderTake => exact ⟨s, by simp [Machine.exec, execBuilderTake, noClaim], .inl hs⟩
  | ackRelease => exact ⟨s, by simp [Machine.exec, execAckRelease, noClaim], .inl hs⟩
  | sessionRestore => exact ⟨s, by simp [Machine.exec, execSessionRestore, noClaim], .inl hs⟩
  | circuitReadClaim => exact ⟨s, by simp [Machine.exec, execCircuitReadClaim, noClaim], .inl hs⟩
  | referenceReadClaim => exact ⟨s, by simp [Machine.exec, execReferenceReadClaim, noClaim], .inl hs⟩
  | meteringClearClaim => exact ⟨s, by simp [Machine.exec, execMeteringClearClaim, noClaim], .inl hs⟩
  | scrubWaitExpiry => exact ⟨s, by simp [Machine.exec, execScrubWaitExpiry, noPass], .inl hs⟩
  | scrubPassEnd => exact ⟨s, by simp [Machine.exec, execScrubPassEnd, noPass], .inl hs⟩
  | intervalTimerExpiry => exact hs.never (by simp [hs.builder, Builder.reset, expires])
  | retransmitTimerExpiry => exact hs.never (by simp [hs.session, Session.reset, expires])
  | unknownCommand => exact ⟨s, by simp [Machine.exec, execUnknownCommand, hs.beginning_none], .inl hs⟩
  | statusRead | countersRead | planClear | planCopy | streamLoad | streamRemove | circuitLoad | referenceLoad | planRead
  | planCommit | sessionOpen | sessionClose | reportConfig | circuitRead | referenceRead | eventConfig
  | meteringClear => exact hs.begins_stays _ _
  | reportFlush => exact ⟨s, by simp [Machine.exec, execReportFlush, begins, hs.beginning_none], .inl hs⟩
  | partReset => exact ⟨s, by simp [Machine.exec, execPartReset, begins, hs.beginning_none], .inl hs⟩
  | partResetDeadline => exact hs.never (by simp [deadlineReached, hs.agent, Agent.reset, expires])
  | supplyFail => exact .ofReset .power s
  | supplyGood straps => exact hs.never (notBypass _)
  | bypassBreakRelease signalAfter straps => exact hs.never (notBypass _)
  | commandBypassEnd straps => exact hs.never (by simp [notBypass])
  | selfCheckEnd passed => exact hs.never (by simp [hs.state])
  | frameOctet p octet => exact hs.frameOctet p octet
  | storageDisturbance contents check n => exact hs.disturbed contents check n

theorem millisecond (hs : PassiveKeeps s) : PassiveKeeps (millisecond s) := by
  constructor <;>
    simp [Machine.millisecond, hs.state, hs.sync, hs.engine, hs.circuits, hs.refs, hs.shadow, hs.pass, hs.builder,
      hs.session, hs.agent, hs.events, Sync.reset, Builder.reset, Session.reset, Agent.reset, Timer.tick, PassState.tick]
  exact hs.headTx

end PassiveKeeps

/-- Settles O59: no update leads out of DEFECT, and a part in PASSIVE meets only forwarded frames and its own links. -/
theorem passiveAndDefectEndOnlyByReset : Obligations.PassiveAndDefectEndOnlyByReset := by
  intro s t h
  unfold step at h
  split at h
  · cases h
    exact ⟨fun hs => .inl hs.millisecond, fun _ hs => .inl (by simpa [DefectHolds] using hs)⟩
  · next c rest _ =>
    refine ⟨fun hs => ?_, fun fits hs =>
      exec_defect (s := { s with pending := rest }) fits hs h⟩
    have hs : PassiveKeeps { s with pending := rest } := ⟨hs.state, hs.sync, hs.engine, hs.circuits, hs.refs, hs.shadow,
      hs.pass, hs.builder, hs.session, hs.agent, hs.events, hs.headTx⟩
    obtain ⟨u, hu, kept⟩ := hs.exec c
    rw [h] at hu
    cases hu
    exact kept

end Sys2Proof.Machine
end


section
/-! PROOFS. The report queue is consecutive and of one session (R121, R138), and closings are distinct (R132). -/

namespace Sys2Proof.Machine

variable {i : Instr} {s t : State}

/-! ### Closings -/

theorem Update.keeps_closingsDistinct (h : Update i s t) (hs : ClosingsDistinct s) : ClosingsDistinct t := by
  have same {t : State} (closings : t.builder.closings.map Closing.circuit = s.builder.closings.map Closing.circuit) :
      ClosingsDistinct t := by rwa [ClosingsDistinct, closings]
  have mapped {f : Closing → Closing} (circuit : ∀ k, (f k).circuit = k.circuit) :
      (s.builder.closings.map f).map Closing.circuit = s.builder.closings.map Closing.circuit := by simp [circuit]
  have unbound : (takenApart s).builder.closings.map Closing.circuit = s.builder.closings.map Closing.circuit :=
    mapped fun k => by split <;> rfl
  cases h with
  | builder f closings => exact hs.sublist closings
  | closesCircuit p c _ _ free =>
    unfold ClosingsDistinct
    rw [closeCircuit_closings, List.map_append, List.nodup_append]
    refine ⟨hs, List.nodup_singleton _, fun x hx y hy => ?_⟩
    obtain ⟨k, hk, rfl⟩ := List.mem_map.mp hx
    rw [List.mem_singleton.mp hy]
    exact free k hk
  | retires n =>
    have filtered : (retire n s).builder.closings.Sublist s.builder.closings := by
      unfold retire
      dsimp only
      split <;> simp
    exact hs.sublist (filtered.map _)
  | closes => exact same unbound
  | restoring => exact same (by simpa using unbound)
  | records =>
    generalize visitAll s = run
    exact same (mapped fun k => by unfold bindClosing; split <;> rfl)
  | appends => exact hs
  | opens => exact hs
  | clears => simp [ClosingsDistinct, clearMetering]
  | _ => exact same (by simp)

/-! ### The sequences of the queue -/

/-- The n sequences that end just before the next one (R121). -/
def sequencesBefore (next : Half) (n : Nat) : List Half := (List.range n).map fun i => next - BitVec.ofNat 16 (n - i)

theorem drop_sequencesBefore (next : Half) (n k : Nat) :
    (sequencesBefore next n).drop k = sequencesBefore next (n - k) := by
  refine List.ext_getElem (by simp [sequencesBefore]) fun i h h' => ?_
  simp only [sequencesBefore, List.getElem_drop, List.getElem_map, List.getElem_range]
  rw [Nat.sub_add_eq]

theorem sequencesBefore_succ (next : Half) (n : Nat) :
    sequencesBefore (next + 1) (n + 1) = sequencesBefore next n ++ [next] := by
  unfold sequencesBefore
  rw [List.range_succ, List.map_append, List.map_singleton]
  congr 1
  · refine List.map_congr_left fun i hi => ?_
    have hlt := List.mem_range.mp hi
    rw [show n + 1 - i = (n - i) + 1 by omega, BitVec.ofNat_add]
    bv_omega
  · simp

/-- The conditions of QueueFits that speak of the session alone. -/
structure SessionFits (q : Session) : Prop where
  consecutive : q.queue.map Record.sequence = sequencesBefore q.next q.queue.length
  ids : ∀ r ∈ q.queue, q.id = some r.session
  held : q.id = none ↔ q.state = .closed
  closed : q.state = .closed → q.queue = [] ∧ q.highest = none

/-- A TALLY in transmission that names a record names one of the queue (R142, R153). -/
def SentFits (tx : Option HeadTx) (queue : List Record) : Prop :=
  ∀ seq again octets, tx = some ⟨.tally (some seq) again, octets⟩ → ∃ r ∈ queue, r.sequence = seq

theorem queueFits_iff (s : State) :
    QueueFits s ↔ SessionFits s.session ∧ SentFits s.links.headTx s.session.queue :=
  ⟨fun h => ⟨⟨h.consecutive, h.ids, h.held, h.closed⟩, h.sent⟩,
    fun ⟨h, sent⟩ => ⟨h.consecutive, h.ids, h.held, h.closed, sent⟩⟩

theorem map_sequence_of_content {k l : List Record} (h : k.map Record.content = l.map Record.content) :
    k.map Record.sequence = l.map Record.sequence := by
  have := congrArg (List.map fun x : Half × Half × List Entry => x.2.1) h
  simpa [List.map_map, Function.comp_def, Record.content] using this

/-- A session with the same records, whatever their states, that is closed as before. -/
theorem SessionFits.of_kept {q r : Session} (hq : SessionFits q) (content : r.queue.map Record.content = q.queue.map Record.content)
    (next : r.next = q.next) (id : r.id = q.id) (state : r.state = .closed ↔ q.state = .closed)
    (highest : q.state = .closed → r.highest = none) : SessionFits r where
  consecutive := by
    have length : r.queue.length = q.queue.length := by simpa using congrArg List.length content
    rw [map_sequence_of_content content, next, length, hq.consecutive]
  ids x hx := by
    have hx' : x.content ∈ q.queue.map Record.content := content ▸ List.mem_map_of_mem hx
    obtain ⟨y, hy, same⟩ := List.mem_map.mp hx'
    rw [id, hq.ids y hy]
    exact congrArg (fun c : Half × Half × List Entry => some c.1) same
  held := by rw [id, state]; exact hq.held
  closed h := by
    have h := state.mp h
    have empty : r.queue.map Record.content = [] := by rw [content, (hq.closed h).1]; rfl
    exact ⟨List.map_eq_nil_iff.mp empty, highest h⟩

theorem SessionFits.of_kept_live {q r : Session} (hq : SessionFits q)
    (content : r.queue.map Record.content = q.queue.map Record.content) (next : r.next = q.next) (id : r.id = q.id)
    (live : q.state ≠ .closed) (live' : r.state ≠ .closed) : SessionFits r :=
  hq.of_kept content next id (iff_of_false live' live) fun h => absurd h live

/-- A record joins the queue under the next sequence and the session's id. -/
theorem SessionFits.append {q : Session} (hq : SessionFits q) (live : q.state ≠ .closed) {r : Record}
    (sequence : r.sequence = q.next) (session : r.session = q.idValue) :
    SessionFits { q with queue := q.queue ++ [r], next := q.next + 1 } where
  consecutive := by
    simp only [List.map_append, List.length_append, List.length_singleton, List.map_singleton]
    rw [sequencesBefore_succ, hq.consecutive, sequence]
  ids x hx := by
    rw [List.mem_append, List.mem_singleton] at hx
    obtain hx | rfl := hx
    · exact hq.ids x hx
    · obtain ⟨id, hid⟩ := Option.ne_none_iff_exists'.mp (hq.held.not.mpr live)
      simp [hid, session, Session.idValue]
  held := hq.held
  closed h := absurd h live

/-- The first records leave the queue. -/
theorem SessionFits.drop {q : Session} (hq : SessionFits q) (live : q.state ≠ .closed) (n : Nat) (k : Word) :
    SessionFits { q with queue := q.queue.drop n, acknowledged := k } where
  consecutive := by
    dsimp only
    rw [List.map_drop, hq.consecutive, drop_sequencesBefore, List.length_drop]
  ids x hx := hq.ids x (List.mem_of_mem_drop hx)
  held := hq.held
  closed h := absurd h live

theorem closedSession_fits (q : Session) : SessionFits (closedSession q) := by
  constructor <;> simp [closedSession, sequencesBefore]

theorem openSession_fits {s : State} (hs : SessionFits s.session) (closed : s.session.state = .closed) (id first : Half) :
    SessionFits (openSession id first s).session := by
  have empty := (hs.closed closed).1
  constructor <;> simp [openSession, empty, sequencesBefore]

/-- Retiring records leaves the session's other fields and counts them. -/
theorem retire_session (n : Nat) (s : State) : (retire n s).session =
    { s.session with queue := s.session.queue.drop n,
                     acknowledged := s.session.acknowledged + BitVec.ofNat 32 (s.session.queue.take n).length } := by
  unfold retire
  dsimp only
  split <;> simp

theorem tallySent_content (q : Half) (r : Session) :
    (tallySent q r).queue.map Record.content = r.queue.map Record.content := by
  simp only [tallySent, List.map_map]
  refine List.map_congr_left fun x _ => ?_
  dsimp only [Function.comp_apply]
  split <;> rfl

theorem Update.keeps_sessionFits (h : Update i s t) (hs : SessionFits s.session)
    (sent : SentFits s.links.headTx s.session.queue) : SessionFits t.session := by
  have same {t : State} (session : t.session = s.session) : SessionFits t.session := by rwa [session]
  cases h with
  | session f kept =>
    exact hs.of_kept kept.content kept.next kept.id (by rw [State.onSession_session, kept.state]) fun h =>
      kept.highest.trans (hs.closed h).2
  | tallySent q again octets tx =>
    obtain ⟨r, hr, -⟩ := sent q again octets tx
    have live : s.session.state ≠ .closed := fun h => List.ne_nil_of_mem hr (hs.closed h).1
    exact hs.of_kept_live (tallySent_content q _) rfl rfl live live
  | holds cause opened => exact hs.of_kept_live rfl rfl rfl (by simp [opened]) (by simp)
  | resumes held => exact hs.of_kept_live (markResend_content _) rfl rfl (by simp [held]) (by simp)
  | retires n live =>
    rw [retire_session]
    exact hs.drop live n _
  | opens id first closed => exact openSession_fits hs closed id first
  | closes => exact closedSession_fits _
  | restoring => exact closedSession_fits _
  | records accepts =>
    generalize visitAll s = run
    exact hs.append ((builderAccepts_iff s).mp accepts).1 rfl rfl
  | appends accepts => exact hs.append ((builderAccepts_iff s).mp accepts).1 rfl rfl
  | closesCircuit => exact same (by simp)
  | _ => exact same (by simp)

/-! ### The TALLY in transmission -/

theorem SentFits.of_sequences {tx : Option HeadTx} {k l : List Record} (h : SentFits tx l)
    (sequences : k.map Record.sequence = l.map Record.sequence) : SentFits tx k := by
  intro seq again octets htx
  obtain ⟨r, hr, rfl⟩ := h seq again octets htx
  have hr' : r.sequence ∈ k.map Record.sequence := sequences ▸ List.mem_map_of_mem hr
  exact List.mem_map.mp hr'

theorem SentFits.append {tx : Option HeadTx} {l : List Record} (h : SentFits tx l) (k : List Record) :
    SentFits tx (l ++ k) := by
  intro seq again octets htx
  obtain ⟨r, hr, hseq⟩ := h seq again octets htx
  exact ⟨r, List.mem_append_left k hr, hseq⟩

/-- A TALLY that names a record after some have left names one that has not. -/
theorem orphanTx_names {gone : List Record} {seq : Half} {again : Bool} {octets : Frame}
    (h : (orphanTx gone s).links.headTx = some ⟨.tally (some seq) again, octets⟩) :
    s.links.headTx = some ⟨.tally (some seq) again, octets⟩ ∧ ∀ r ∈ gone, r.sequence ≠ seq := by
  unfold orphanTx at h
  simp only [State.onLinks_links, Option.map_eq_some_iff] at h
  obtain ⟨tx, htx, h⟩ := h
  split at h
  · next q b hsource =>
    split at h
    · simp at h
    · next hnone =>
      subst h
      simp only [HeadSource.tally.injEq, Option.some.injEq] at hsource
      obtain ⟨rfl, rfl⟩ := hsource
      exact ⟨htx, by simpa using hnone⟩
  · next other =>
    subst h
    exact absurd rfl (other seq again)

theorem retire_headTx (n : Nat) (s : State) :
    (retire n s).links.headTx = (orphanTx (s.session.queue.take n) s).links.headTx := by
  unfold retire
  dsimp only
  split <;> simp [orphanTx]

theorem Update.keeps_sentFits (h : Update i s t) (hs : SentFits s.links.headTx s.session.queue) :
    SentFits t.links.headTx t.session.queue := by
  have same {t : State} (tx : t.links.headTx = s.links.headTx)
      (sequences : t.session.queue.map Record.sequence = s.session.queue.map Record.sequence) :
      SentFits t.links.headTx t.session.queue := by
    rw [tx]
    exact hs.of_sequences sequences
  have apart : SentFits (takenApart s).links.headTx [] := by
    intro seq again octets htx
    obtain ⟨htx, gone⟩ := orphanTx_names (s := s) htx
    obtain ⟨r, hr, hseq⟩ := hs seq again octets htx
    exact absurd hseq (gone r hr)
  cases h with
  | links f _ _ tx =>
    intro seq again octets htx
    obtain h | h := tx _ htx
    · exact hs seq again octets h
    · exact absurd rfl (h seq again)
  | sendsTally r again octets queued =>
    intro seq again' octets' htx
    cases htx
    exact ⟨r, queued, rfl⟩
  | session f kept => exact same rfl (map_sequence_of_content kept.content)
  | tallySent q => exact same rfl (map_sequence_of_content (tallySent_content q _))
  | resumes => exact same rfl (map_sequence_of_content (markResend_content _))
  | retires n =>
    rw [retire_session, retire_headTx]
    intro seq again octets htx
    obtain ⟨htx, gone⟩ := orphanTx_names htx
    obtain ⟨r, hr, hseq⟩ := hs seq again octets htx
    rw [← List.take_append_drop n s.session.queue, List.mem_append] at hr
    exact ⟨r, hr.resolve_left fun h => gone r h hseq, hseq⟩
  | closes => exact apart
  | restoring => exact apart
  | records =>
    generalize visitAll s = run
    exact hs.append _
  | appends => exact hs.append _
  | opens => exact same rfl rfl
  | closesCircuit => exact same (by simp) (by simp)
  | _ => exact same (by simp) (by simp)

theorem Update.keeps_queueFits (h : Update i s t) (hs : QueueFits s) : QueueFits t := by
  rw [queueFits_iff] at hs ⊢
  exact ⟨h.keeps_sessionFits hs.1 hs.2, h.keeps_sentFits hs.2⟩

theorem millisecond_queueFits (s : State) (hs : QueueFits s) : QueueFits (millisecond s) := by
  unfold millisecond
  split <;> exact ⟨hs.consecutive, hs.ids, hs.held, hs.closed, hs.sent⟩

theorem fullReset_queueFits (cause : ResetCause) (s : State) : QueueFits (fullReset cause s) := by
  constructor <;> simp [fullReset, State.afterReset, Session.reset, Links.reset]

/-- Settles O56: the updates of the report queue, of the TALLY in transmission and of the closing list, one by one. -/
theorem everyStepKeepsTheReportQueueConsecutive : Obligations.EveryStepKeepsTheReportQueueConsecutive := fun _ _ h =>
  ⟨fun hs => step_keeps fullReset_queueFits millisecond_queueFits
      (fun _ _ hs => ⟨hs.consecutive, hs.ids, hs.held, hs.closed, hs.sent⟩) (fun _ _ _ h => h.keeps_queueFits) hs h,
    fun hs => step_keeps (fun _ _ => by simp [ClosingsDistinct, fullReset, State.afterReset, Builder.reset])
      (fun s hs => by simpa [ClosingsDistinct] using hs) (fun _ _ hs => hs) (fun _ _ _ h => h.keeps_closingsDistinct) hs h⟩

end Sys2Proof.Machine
end


section
/-! PROOFS. The account of in-flight units (R99, R145, R151), the owed cap (R85), and what releases, restores and builder
takes do to each direction. -/

namespace Sys2Proof.Machine

variable {i : Instr} {s t : State}

/-! ### Units by circuit and direction -/

/-- The UNITS entry of a record's entry, if it is one. -/
def Entry.ref? : Entry → Option UnitsRef
  | .units u _ => some u
  | .close _ => none

theorem unitsOf_eq (rs : List Record) : unitsOf rs = rs.flatMap fun r => r.entries.filterMap Entry.ref? := by
  unfold unitsOf
  congr 1

theorem unitsOf_append (k l : List Record) : unitsOf (k ++ l) = unitsOf k ++ unitsOf l := by
  simp [unitsOf_eq]

theorem unitsOf_content {k l : List Record} (h : k.map Record.content = l.map Record.content) : unitsOf k = unitsOf l := by
  have := congrArg (List.flatMap fun x : Half × Half × List Entry => x.2.2.filterMap Entry.ref?) h
  simpa [unitsOf_eq, List.flatMap_map, Record.content] using this

@[simp] theorem unitsOfPair_nil (c : Fin 96) (d : Direction) : unitsOfPair c d [] = 0 := rfl

theorem unitsOfPair_cons (c : Fin 96) (d : Direction) (u : UnitsRef) (us : List UnitsRef) :
    unitsOfPair c d (u :: us) = (if c = u.circuit ∧ d = u.direction then u.units else 0) + unitsOfPair c d us := by
  simp only [unitsOfPair, List.map_cons, List.sum_cons, eq_comm]

@[simp] theorem unitsOfPair_append (c : Fin 96) (d : Direction) (us vs : List UnitsRef) :
    unitsOfPair c d (us ++ vs) = unitsOfPair c d us + unitsOfPair c d vs := by
  simp [unitsOfPair]

/-! ### Release and restore, direction by direction -/

/-- A direction after some units of it are no longer in flight. -/
def DirState.lowered (n : Nat) (x : DirState) : DirState := { x with inFlight := x.inFlight - n }

theorem dir_lowerInFlight (us : List UnitsRef) {s : State} (present : s.circuits.length = 96) (c : Fin 96) (d : Direction) :
    ((us.foldl lowerInFlight s).circ c).dir d = ((s.circ c).dir d).lowered (unitsOfPair c d us) := by
  induction us generalizing s with
  | nil => rfl
  | cons u us ih =>
    rw [List.foldl_cons, ih (by rw [lowerInFlight, State.onDir_length]; exact present), lowerInFlight,
      State.dir_onDir _ _ _ _ _ _ present, unitsOfPair_cons]
    split
    · next h =>
      rw [h.1, h.2]
      simp only [DirState.lowered, Nat.sub_sub]
    · rw [Nat.zero_add]

theorem length_lowerInFlight (us : List UnitsRef) (s : State) :
    (us.foldl lowerInFlight s).circuits.length = s.circuits.length :=
  foldl_keeps (fun s : State => s.circuits.length) _ (fun _ _ => State.onDir_length _ _ _ _) us s

/-- A direction that a claim names is unblocked when it owes less than the cap (R100). -/
def DirState.unblocked (named : Bool) (x : DirState) : DirState :=
  { x with blocked := x.blocked && !(named && decide (x.owed < 16777215)) }

/-- Some UNITS entry names the circuit and direction. -/
def namesPair (c : Fin 96) (d : Direction) (us : List UnitsRef) : Bool :=
  us.any fun u => decide (c = u.circuit ∧ d = u.direction)

theorem DirState.unblocked_unblocked (a b : Bool) (x : DirState) :
    (x.unblocked a).unblocked b = x.unblocked (a || b) := by
  simp only [unblocked, owed, DirState.mk.injEq, true_and, and_true]
  by_cases low : x.pending + x.inFlight < 16777215 <;> cases a <;> cases b <;> simp [low]

theorem DirState.unblocked_eq_self {x : DirState} (h : ¬ (x.blocked = true ∧ x.owed < 16777215)) (named : Bool) :
    x.unblocked named = x := by
  have blocked : (x.blocked && !(named && decide (x.owed < 16777215))) = x.blocked := by
    cases hb : x.blocked
    · rfl
    · rw [decide_eq_false fun low => h ⟨hb, low⟩, Bool.and_false]
      rfl
  rw [unblocked, blocked]

theorem dir_unblockTest {s : State} (present : s.circuits.length = 96) (e c : Fin 96) (a d : Direction) :
    ((unblockTest e a s).circ c).dir d = ((s.circ c).dir d).unblocked (decide (c = e ∧ d = a)) := by
  have cap : Config.owedCap = 16777215 := rfl
  unfold unblockTest
  dsimp only
  rw [cap]
  split
  · next h =>
    show ((State.circ (post _ _ _ _) c).dir d) = _
    rw [circ_post, State.dir_onDir _ _ _ _ _ _ present]
    split
    · next hpair =>
      rw [hpair.1, hpair.2]
      simp [DirState.unblocked, h.2]
    · next hpair => simp [DirState.unblocked, hpair]
  · next h =>
    by_cases hpair : c = e ∧ d = a
    · rw [hpair.1, hpair.2, DirState.unblocked_eq_self h]
    · simp [DirState.unblocked, hpair]

theorem length_unblockTest (e : Fin 96) (a : Direction) (s : State) :
    (unblockTest e a s).circuits.length = s.circuits.length := by
  unfold unblockTest
  dsimp only
  split <;> simp [postUnblocked]

theorem dir_unblockTests (us : List UnitsRef) {s : State} (present : s.circuits.length = 96) (c : Fin 96) (d : Direction) :
    ((us.foldl (fun t u => unblockTest u.circuit u.direction t) s).circ c).dir d =
      ((s.circ c).dir d).unblocked (namesPair c d us) := by
  induction us generalizing s with
  | nil => simp [DirState.unblocked, namesPair]
  | cons u us ih =>
    rw [List.foldl_cons, ih ((length_unblockTest _ _ s).trans present), dir_unblockTest present,
      DirState.unblocked_unblocked]
    congr 1

/-- A direction after an ack release claim (R100, R145). -/
theorem dir_releaseUnits (us : List UnitsRef) {s : State} (present : s.circuits.length = 96) (c : Fin 96) (d : Direction) :
    ((releaseUnits us s).circ c).dir d =
      (((s.circ c).dir d).lowered (unitsOfPair c d us)).unblocked (namesPair c d us) := by
  rw [releaseUnits, dir_unblockTests us ((length_lowerInFlight us s).trans present), dir_lowerInFlight us present]

/-- A direction after some units of it have returned from in-flight to pending, with the taints they carried. -/
def DirState.restored (n : Nat) (test holdover : Bool) (x : DirState) : DirState :=
  { x with inFlight := x.inFlight - n, pending := x.pending + n, test := x.test || test, holdover := x.holdover || holdover }

/-- The UNITS entries that name a circuit and direction. -/
def unitsNaming (c : Fin 96) (d : Direction) (us : List UnitsRef) : List UnitsRef :=
  us.filter fun u => u.circuit == c && u.direction == d

/-- A direction after a session restore claim (R151). -/
theorem dir_restoreUnits (us : List UnitsRef) {s : State} (present : s.circuits.length = 96) (c : Fin 96) (d : Direction) :
    ((us.foldl restoreUnits s).circ c).dir d = ((s.circ c).dir d).restored (unitsOfPair c d us)
      ((unitsNaming c d us).any UnitsRef.test) ((unitsNaming c d us).any UnitsRef.holdover) := by
  induction us generalizing s with
  | nil => simp [DirState.restored, unitsNaming]
  | cons u us ih =>
    rw [List.foldl_cons, ih (by rw [restoreUnits, State.onDir_length]; exact present), restoreUnits,
      State.dir_onDir _ _ _ _ _ _ present, unitsOfPair_cons]
    by_cases h : c = u.circuit ∧ d = u.direction
    · have named : unitsNaming c d (u :: us) = u :: unitsNaming c d us :=
        List.filter_cons_of_pos (by rw [h.1, h.2, beq_self_eq_true, beq_self_eq_true]; rfl)
      rw [if_pos h, if_pos h, named, List.any_cons, List.any_cons, ← h.1, ← h.2]
      simp only [DirState.restored, Nat.sub_sub, Nat.add_assoc, Bool.or_assoc]
    · have other : unitsNaming c d (u :: us) = unitsNaming c d us := List.filter_cons_of_neg fun named => h (by
        simp only [Bool.and_eq_true, beq_iff_eq] at named
        exact ⟨named.1.symm, named.2.symm⟩)
      rw [if_neg h, if_neg h, other, Nat.zero_add]

/-! ### The builder's visit, unit by unit -/

/-- What the visit of a run keeps between the circuits it started from and the entries it has placed: the units that left a
direction's pending units are in flight, and named by the entries. -/
structure RunFits (s : State) (run : Run) : Prop where
  present : run.circuits.length = 96
  inFlight : ∀ c d, ((run.circ c).dir d).inFlight =
    ((s.circ c).dir d).inFlight + unitsOfPair c d (run.entries.filterMap Entry.ref?)
  owed : ∀ c d, ((run.circ c).dir d).owed = ((s.circ c).dir d).owed

theorem RunFits.visitDir {run : Run} (h : RunFits s run) (p : PlanContents) (c : Fin 96) (d : Direction) :
    RunFits s (visitDir p c d run) := by
  have read (e : Fin 96) : (⟨run.circuits.set c.val ((run.circ c).onDir d takeUnits), [], none⟩ : Run).circ e =
      if e = c then (run.circ c).onDir d takeUnits else run.circ e :=
    State.circ_onCirc c e (CircuitState.onDir d takeUnits) { State.reset with circuits := run.circuits } h.present
  unfold Machine.visitDir
  dsimp only
  split
  · have dir (e : Fin 96) (a : Direction) :
        ((⟨run.circuits.set c.val ((run.circ c).onDir d takeUnits), [], none⟩ : Run).circ e).dir a =
          if e = c ∧ a = d then takeUnits ((run.circ c).dir d) else (run.circ e).dir a := by
      rw [read]
      by_cases he : e = c
      · subst he
        by_cases ha : a = d <;> simp [ha]
      · simp [he]
    have taken : takeUnits ((run.circ c).dir d) = takeUnits ((run.circ c).dir d) := rfl
    refine ⟨by simpa using h.present, fun e a => ?_, fun e a => ?_⟩
    · refine (congrArg DirState.inFlight (dir e a)).trans ?_
      rw [List.filterMap_append, unitsOfPair_append, ← Nat.add_assoc, ← h.inFlight]
      split
      · next hpair => simp [unitsEntry, Entry.ref?, unitsOfPair_cons, hpair, takeUnits, Run.circ]
      · next hpair => simp [unitsEntry, Entry.ref?, unitsOfPair_cons, hpair]
    · refine (congrArg DirState.owed (dir e a)).trans ?_
      rw [← h.owed]
      split
      · next hpair =>
        rw [hpair.1, hpair.2]
        simp only [takeUnits, DirState.owed]
        omega
      · rfl
  · exact h

theorem foldl_visitCircuit_fits (p : PlanContents) (l : List (Fin 96)) {run : Run} (h : RunFits s run) :
    RunFits s (l.foldl (visitCircuit p) run) := by
  induction l generalizing run with
  | nil => exact h
  | cons c rest ih => exact ih ((h.visitDir p c .imp).visitDir p c .exp)

theorem visitAll_fits (present : s.circuits.length = 96) : RunFits s (visitAll s) := by
  refine foldl_visitCircuit_fits _ _ ⟨present, fun c d => ?_, fun _ _ => rfl⟩
  have none : ((s.builder.closings.filter Closing.isWaiting).map Entry.close).filterMap Entry.ref? = [] := by
    simp [Entry.ref?]
  rw [none]
  rfl

/-! ### Clearing -/

theorem circ_clearCircuits (l : List (Fin 96)) {s : State} (present : s.circuits.length = 96) (c : Fin 96) :
    (l.foldl clearCircuit s).circ c = if c ∈ l then .cleared else s.circ c := by
  induction l generalizing s with
  | nil => simp
  | cons e rest ih =>
    have length : (clearCircuit s e).circuits.length = 96 := by simpa [clearCircuit] using present
    rw [List.foldl_cons, ih length, circ_clearCircuit, State.circ_onCirc _ _ _ _ present]
    by_cases h : c = e <;> simp [h]

theorem circ_clearMetering (present : s.circuits.length = 96) (c : Fin 96) : (clearMetering s).circ c = .cleared := by
  have circuits : (clearMetering s).circuits = (allCircuits.foldl clearCircuit s).circuits := by simp [clearMetering]
  rw [circ_of_circuits circuits, circ_clearCircuits allCircuits present, if_pos (mem_allCircuits c)]

end Sys2Proof.Machine
end


section
/-! PROOFS. Every in-flight unit is named by a record or a waiting claim, and no direction owes more than the cap (R85, R99,
R104, R145, R151). -/

namespace Sys2Proof.Machine

variable {i : Instr} {s t : State}

/-! ### The claim of METERING_CLEAR -/

/-- What keeps METERING_CLEAR from losing units (R104), of the claims, the session state and the command held. -/
def ClearIsSafe (claims : List Claim) (state : SessionState) (held : Option Held) : Prop :=
  ∀ before after, claims = before ++ .meteringClear :: after →
    state = .closed ∧ held = some .meteringClear ∧ after.flatMap claimUnits = [] ∧
      Claim.meteringClear ∉ before ∧ Claim.meteringClear ∉ after

variable {claims : List Claim} {state : SessionState} {held : Option Held}

/-- Without a claim of METERING_CLEAR there is nothing to keep. -/
theorem ClearIsSafe.of_none (h : Claim.meteringClear ∉ claims) : ClearIsSafe claims state held :=
  fun before after eq => absurd (eq ▸ by simp) h

theorem ClearIsSafe.none_of (h : ClearIsSafe claims state held) (free : state ≠ .closed ∨ held ≠ some .meteringClear) :
    Claim.meteringClear ∉ claims := by
  intro mem
  obtain ⟨before, after, eq⟩ := List.append_of_mem mem
  obtain ⟨closed, isHeld, -⟩ := h before after eq
  exact free.elim (· closed) (· isHeld)

/-- The first claim is taken. -/
theorem ClearIsSafe.tail (h : ClearIsSafe claims state held) : ClearIsSafe claims.tail state held := by
  intro before after eq
  cases claims with
  | nil => simp at eq
  | cons k rest =>
    obtain ⟨closed, isHeld, units, fresh, fresh'⟩ := h (k :: before) after (congrArg (k :: ·) eq)
    exact ⟨closed, isHeld, units, fun mem => fresh (List.mem_cons_of_mem k mem), fresh'⟩

/-- A claim without units joins. -/
theorem ClearIsSafe.append (h : ClearIsSafe claims state held) {k : Claim} (units : claimUnits k = [])
    (other : k ≠ .meteringClear) : ClearIsSafe (claims ++ [k]) state held := by
  intro before after eq
  obtain rfl | ⟨after', last, rfl⟩ := List.eq_nil_or_concat after
  · exact absurd (List.append_inj_right' (s₁ := claims) (s₂ := before) eq rfl) (by simpa using other)
  · rw [List.concat_eq_append, ← List.cons_append, ← List.append_assoc] at eq
    obtain ⟨rfl, eq⟩ := List.append_inj' eq rfl
    obtain rfl : k = last := by simpa using eq
    obtain ⟨closed, isHeld, after, fresh, fresh'⟩ := h before after' rfl
    exact ⟨closed, isHeld, by simp [after, units], fresh, by simpa using ⟨fresh', other.symm⟩⟩

theorem ClearIsSafe.placed (h : ClearIsSafe claims .closed held) (free : held = none) :
    ClearIsSafe (claims ++ [.meteringClear]) .closed (some .meteringClear) := by
  have none := h.none_of (.inr (by simp [free]))
  intro before after eq
  obtain rfl | ⟨after', last, rfl⟩ := List.eq_nil_or_concat after
  · obtain ⟨rfl, -⟩ := List.append_inj' eq rfl
    exact ⟨rfl, rfl, rfl, none, by simp⟩
  · rw [List.concat_eq_append, ← List.cons_append, ← List.append_assoc] at eq
    obtain ⟨rfl, -⟩ := List.append_inj' eq rfl
    exact absurd (by simp) none

/-- The claim of METERING_CLEAR is taken: no other waits. -/
theorem ClearIsSafe.taken {rest : List Claim} (h : ClearIsSafe (.meteringClear :: rest) state held) :
    Claim.meteringClear ∉ rest := (h [] rest rfl).2.2.2.2

theorem Update.keeps_clearIsSafe (h : Update i s t) (hs : ClearIsSafe s.engine.claims s.session.state s.agent.held) :
    ClearIsSafe t.engine.claims t.session.state t.agent.held := by
  have same {t : State} (claims : t.engine.claims = s.engine.claims) (state : t.session.state = s.session.state)
      (held : t.agent.held = s.agent.held) : ClearIsSafe t.engine.claims t.session.state t.agent.held := by
    rwa [claims, state, held]
  have taken {t : State} (claims : t.engine.claims = s.engine.claims.tail) (state : t.session.state = s.session.state)
      (held : t.agent.held = s.agent.held) : ClearIsSafe t.engine.claims t.session.state t.agent.held := by
    rw [claims, state, held]
    exact hs.tail
  have live {t : State} (claims : t.engine.claims = s.engine.claims)
      (live : s.session.state ≠ .closed ∨ s.agent.held ≠ some .meteringClear) :
      ClearIsSafe t.engine.claims t.session.state t.agent.held := by
    rw [claims]
    exact .of_none (hs.none_of live)
  have joined {t : State} (k : Claim) (claims : t.engine.claims = s.engine.claims ++ [k])
      (other : k ≠ .meteringClear) (free : s.session.state ≠ .closed ∨ s.agent.held ≠ some .meteringClear) :
      ClearIsSafe t.engine.claims t.session.state t.agent.held := by
    rw [claims]
    exact .of_none (by simpa using ⟨hs.none_of free, other.symm⟩)
  cases h with
  | agent f _ _ held =>
    obtain held | free := held
    · exact same rfl rfl held
    · exact live rfl (.inr free)
  | engine f _ claims => exact same claims rfl rfl
  | session f kept => exact same rfl kept.state rfl
  | tallySent => exact same rfl rfl rfl
  | holds _ opened => exact live rfl (.inl (by simp [opened]))
  | resumes held => exact live rfl (.inl (by simp [held]))
  | retires n alive =>
    have claims := claims_retire n s
    split at claims
    · exact live claims (.inl alive)
    · exact joined _ claims (by simp) (.inl alive)
  | opens _ _ _ begun => exact live rfl (.inr (by simp [begun]))
  | closes =>
    intro before after eq
    obtain ⟨_, isHeld, rest⟩ := hs before after eq
    exact ⟨rfl, isHeld, rest⟩
  | restoring h begun =>
    exact joined (.sessionRestore (unitsOf s.session.queue)) (by simp [placeClaim]) (by simp) (.inr (by simp [begun]))
  | places k units clear => exact hs.append units clear
  | placesClear closed begun =>
    show ClearIsSafe (s.engine.claims ++ [.meteringClear]) s.session.state (some .meteringClear)
    rw [closed] at hs ⊢
    exact hs.placed begun
  | takesClaim | restores => exact taken (by simp [dropClaim]) (by simp) (by simp)
  | releases us => exact taken (by simp [dropClaim]) (by simp) (by simp)
  | clears next =>
    obtain ⟨-, rest, claims⟩ := nextClaim_some next
    rw [claims] at hs
    refine .of_none ?_
    have left : (clearMetering (dropClaim s)).engine.claims = rest := by simp [dropClaim, claims]
    rw [left]
    exact hs.taken
  | faults => exact same (by simp [faultPlan]) rfl rfl
  | closesCircuit => exact same (by simp) (by simp) (by simp)
  | records =>
    generalize visitAll s = run
    exact same rfl rfl rfl
  | appends => exact same rfl rfl rfl
  | _ => exact same (by simp) (by simp) (by simp)

/-! ### An empty queue in CLOSED -/

theorem Update.keeps_closedEmpty (h : Update i s t) (hs : s.session.state = .closed → s.session.queue = []) :
    t.session.state = .closed → t.session.queue = [] := by
  have same {t : State} (state : t.session.state = s.session.state) (queue : t.session.queue = s.session.queue) :
      t.session.state = .closed → t.session.queue = [] := by rwa [state, queue]
  cases h with
  | session f kept =>
    intro closed
    have empty : (f s.session).queue.map Record.content = [] := by
      rw [kept.content, hs (kept.state.symm.trans closed)]
      rfl
    exact List.map_eq_nil_iff.mp empty
  | tallySent =>
    intro closed
    simp [Machine.tallySent, hs closed]
  | holds => exact fun closed => absurd closed (by simp)
  | resumes => exact fun closed => absurd closed (by simp)
  | retires n live => exact fun closed => absurd (closed.symm.trans (retire_session_state n s)).symm live
  | opens => exact fun closed => absurd closed (by simp [openSession])
  | closes => exact fun _ => rfl
  | restoring => exact fun _ => rfl
  | records accepts => exact fun closed => absurd closed ((builderAccepts_iff s).mp accepts).1
  | appends accepts => exact fun closed => absurd closed ((builderAccepts_iff s).mp accepts).1
  | closesCircuit => exact same (by simp) (by simp)
  | _ => exact same (by simp) (by simp)

/-! ### In-flight units -/

/-- The units that the records of the queue and the waiting claims name. -/
def unitsNamed (s : State) : List UnitsRef := unitsOf s.session.queue ++ s.engine.claims.flatMap claimUnits

/-- A circuit whose in-flight units have not moved, and whose owed units stay within the cap. -/
structure UnitsKept (x y : CircuitState) : Prop where
  inFlight : ∀ d, (y.dir d).inFlight = (x.dir d).inFlight
  owed : ∀ d, (x.dir d).owed ≤ 16777215 → (y.dir d).owed ≤ 16777215

theorem UnitsKept.refl (x : CircuitState) : UnitsKept x x := ⟨fun _ => rfl, fun _ => id⟩

theorem UnitsKept.ofTame {x y : CircuitState} (h : CircuitTame x y) : UnitsKept x y where
  inFlight d := by
    cases d with
    | imp => exact h.imp.inFlight
    | exp => exact h.exp.inFlight
  owed d := by
    cases d with
    | imp => exact h.imp.owed
    | exp => exact h.exp.owed

theorem UnitsKept.ofCleared {x : CircuitState} (h : x.imp.inFlight = 0 ∧ x.exp.inFlight = 0) : UnitsKept x .cleared where
  inFlight d := by
    cases d with
    | imp => exact h.1.symm
    | exp => exact h.2.symm
  owed d _ := by cases d <;> simp [CircuitState.cleared, CircuitState.dir, DirState.owed, DirState.cleared]

/-- The account of in-flight units, with the owed cap where it held. -/
structure UnitsMoved (s t : State) : Prop where
  named : (∀ c d, ((s.circ c).dir d).inFlight = unitsOfPair c d (unitsNamed s)) →
    ∀ c d, ((t.circ c).dir d).inFlight = unitsOfPair c d (unitsNamed t)
  owed : (∀ c d, ((s.circ c).dir d).inFlight = unitsOfPair c d (unitsNamed s)) → OwedWithinCap s → OwedWithinCap t

theorem UnitsMoved.ofKept (circuits : ∀ c, UnitsKept (s.circ c) (t.circ c))
    (named : ∀ c d, unitsOfPair c d (unitsNamed t) = unitsOfPair c d (unitsNamed s)) : UnitsMoved s t where
  named h c d := by rw [(circuits c).inFlight, h, named]
  owed _ cap c d := (circuits c).owed d (cap c d)

/-- Units of a claim that is taken leave the claims. -/
theorem unitsNamed_of_claim {k : Claim} (next : nextClaim s = some k) {c : Fin 96} {d : Direction} :
    unitsOfPair c d (unitsNamed s) = unitsOfPair c d (claimUnits k) + unitsOfPair c d (unitsNamed (dropClaim s)) := by
  obtain ⟨-, rest, claims⟩ := nextClaim_some next
  simp only [unitsNamed, dropClaim, State.onEngine_session, State.onEngine_engine, claims, List.flatMap_cons, List.tail_cons,
    unitsOfPair_append]
  omega

theorem unitsMoved_releases (present : s.circuits.length = 96) {us : List UnitsRef}
    (next : nextClaim s = some (.ackRelease us)) : UnitsMoved s (releaseUnits us (dropClaim s)) := by
  have dir (c : Fin 96) (d : Direction) := dir_releaseUnits us (s := dropClaim s) present c d
  have left : unitsNamed (releaseUnits us (dropClaim s)) = unitsNamed (dropClaim s) := by simp [unitsNamed]
  refine ⟨fun h c d => ?_, fun _ cap c d => ?_⟩
  · rw [dir, left]
    have total := (h c d).trans (unitsNamed_of_claim next)
    simp only [claimUnits] at total
    simp only [DirState.unblocked, DirState.lowered]
    show ((s.circ c).dir d).inFlight - _ = _
    omega
  · rw [dir]
    have before := cap c d
    simp only [DirState.unblocked, DirState.lowered, DirState.owed] at before ⊢
    show ((s.circ c).dir d).pending + (((s.circ c).dir d).inFlight - _) ≤ _
    omega

theorem unitsMoved_restores (present : s.circuits.length = 96) {us : List UnitsRef}
    (next : nextClaim s = some (.sessionRestore us)) : UnitsMoved s (us.foldl restoreUnits (dropClaim s)) := by
  have dir (c : Fin 96) (d : Direction) := dir_restoreUnits us (s := dropClaim s) present c d
  have left : unitsNamed (us.foldl restoreUnits (dropClaim s)) = unitsNamed (dropClaim s) := by simp [unitsNamed]
  have total (h : ∀ c d, ((s.circ c).dir d).inFlight = unitsOfPair c d (unitsNamed s)) (c : Fin 96) (d : Direction) :
      ((s.circ c).dir d).inFlight = unitsOfPair c d us + unitsOfPair c d (unitsNamed (dropClaim s)) :=
    (h c d).trans (unitsNamed_of_claim next)
  refine ⟨fun h c d => ?_, fun h cap c d => ?_⟩
  · have total := total h c d
    rw [dir, left]
    simp only [DirState.restored]
    show ((s.circ c).dir d).inFlight - _ = _
    omega
  · have total := total h c d
    have before := cap c d
    rw [dir]
    simp only [DirState.restored, DirState.owed] at before ⊢
    show ((s.circ c).dir d).pending + _ + (((s.circ c).dir d).inFlight - _) ≤ _
    omega

theorem unitsMoved_records (present : s.circuits.length = 96) : UnitsMoved s (composed (visitAll s) s) := by
  obtain ⟨-, inFlight, owed⟩ := visitAll_fits present
  generalize visitAll s = run at *
  have named : unitsNamed (composed run s) =
      (unitsOf s.session.queue ++ run.entries.filterMap Entry.ref?) ++ s.engine.claims.flatMap claimUnits := by
    simp [unitsNamed, composed, appendRecord, unitsOf_eq, recordOf]
  refine ⟨fun h c d => ?_, fun _ cap c d => ?_⟩
  · rw [circ_composed, inFlight, h, named]
    simp only [unitsNamed, unitsOfPair_append]
    omega
  · rw [circ_composed, owed]
    exact cap c d

theorem Update.moves_units (h : Update i s t) (present : s.circuits.length = 96)
    (safe : ClearIsSafe s.engine.claims s.session.state s.agent.held)
    (closed : s.session.state = .closed → s.session.queue = []) : UnitsMoved s t := by
  have same {t : State} (circuits : t.circuits = s.circuits)
      (units : unitsOf t.session.queue = unitsOf s.session.queue)
      (claims : t.engine.claims.flatMap claimUnits = s.engine.claims.flatMap claimUnits) : UnitsMoved s t := by
    refine .ofKept (fun c => ?_) fun c d => by rw [unitsNamed, units, claims, unitsNamed]
    rw [circ_of_circuits circuits]
    exact .refl _
  have joins {t : State} (k : Claim) (circuits : t.circuits = s.circuits)
      (units : unitsOf s.session.queue = claimUnits k ++ unitsOf t.session.queue)
      (claims : t.engine.claims = s.engine.claims ++ [k]) : UnitsMoved s t := by
    refine .ofKept (fun c => ?_) fun c d => ?_
    · rw [circ_of_circuits circuits]
      exact .refl _
    · simp only [unitsNamed, units, claims, unitsOfPair_append, List.flatMap_append, List.flatMap_singleton]
      omega
  cases h with
  | session f kept => exact same rfl (unitsOf_content kept.content) rfl
  | tallySent q => exact same rfl (unitsOf_content (tallySent_content q _)) rfl
  | resumes => exact same rfl (unitsOf_content (markResend_content _)) rfl
  | retires n =>
    have units : unitsOf s.session.queue = unitsOf (s.session.queue.take n) ++ unitsOf (s.session.queue.drop n) := by
      rw [← unitsOf_append, List.take_append_drop]
    have claims := claims_retire n s
    split at claims
    · next none => exact same (by simp) (by rw [retire_session, units, none]; rfl) (by rw [claims])
    · exact joins _ (by simp) (by rw [retire_session]; exact units) claims
  | closes units => exact same (by simp) (by rw [units]; rfl) (by simp)
  | restoring =>
    exact joins (.sessionRestore (unitsOf s.session.queue)) (by simp) (List.append_nil _).symm (by simp [placeClaim])
  | engine f _ claims => exact same rfl rfl (by rw [State.onEngine_engine, claims])
  | places k units => exact same rfl rfl (by simp [placeClaim, units])
  | placesClear => exact same rfl rfl (by simp [placeClaim, claimUnits])
  | takesClaim k next units =>
    obtain ⟨-, rest, claims⟩ := nextClaim_some next
    exact same rfl rfl (by simp [dropClaim, claims, units])
  | releases us next => exact unitsMoved_releases present next
  | restores us next => exact unitsMoved_restores present next
  | clears next =>
    obtain ⟨-, rest, claims⟩ := nextClaim_some next
    obtain ⟨isClosed, -, units, -⟩ := safe [] rest claims
    have circ (c : Fin 96) : (clearMetering (dropClaim s)).circ c = .cleared :=
      circ_clearMetering (s := dropClaim s) present c
    have none : unitsNamed (clearMetering (dropClaim s)) = [] := by
      simp [unitsNamed, closed isClosed, dropClaim, claims, units, unitsOf]
    refine ⟨fun _ c d => ?_, fun _ _ c d => ?_⟩
    · rw [circ, none]
      cases d <;> rfl
    · rw [circ]
      cases d <;> simp [CircuitState.cleared, CircuitState.dir, DirState.owed, DirState.cleared]
  | records => exact unitsMoved_records present
  | appends => exact same rfl (by simp [appendRecord, unitsOf_eq, recordOf]) rfl
  | circuit e f tame =>
    refine .ofKept (fun c => ?_) fun _ _ => rfl
    obtain h | ⟨rfl, h⟩ := circ_onCirc_or e c f s <;> rw [h]
    · exact .refl _
    · exact .ofTame tame
  | circuits f tame =>
    refine .ofKept (fun c => ?_) fun _ _ => rfl
    obtain h | h := circ_map_or f s c <;> rw [h]
    · exact .refl _
    · exact .ofTame (tame _)
  | parks e x =>
    rw [parkSample_eq e x s present]
    refine .ofKept (fun c => ?_) fun _ _ => rfl
    obtain h | ⟨rfl, h⟩ := circ_onCirc_or e c _ s <;> rw [h]
    · exact .refl _
    · exact ⟨fun d => by cases d <;> rfl, fun d => by cases d <;> exact id⟩
  | closesCircuit p e _ idle =>
    refine .ofKept (fun c => ?_) fun _ _ => by simp [unitsNamed]
    obtain h | ⟨rfl, h⟩ := circ_closeCircuit_or p e c s <;> rw [h]
    · exact .refl _
    · exact .ofCleared idle
  | faults => exact same rfl rfl rfl
  | opens => exact same rfl rfl rfl
  | _ => exact same (by simp) (by simp) (by simp)

/-! ### The account -/

theorem unitsBalance_iff (s : State) : UnitsBalance s ↔ s.circuits.length = 96 ∧
    (∀ c d, ((s.circ c).dir d).inFlight = unitsOfPair c d (unitsNamed s)) ∧
    (s.session.state = .closed → s.session.queue = []) ∧ ClearIsSafe s.engine.claims s.session.state s.agent.held := by
  simp only [unitsNamed, unitsOfPair_append]
  exact ⟨fun h => ⟨h.circuits, h.inFlight, h.closed, h.clear⟩, fun ⟨a, b, c, d⟩ => ⟨a, b, c, d⟩⟩

theorem Update.keeps_balance (h : Update i s t) (hs : UnitsBalance s) :
    UnitsBalance t ∧ (OwedWithinCap s → OwedWithinCap t) := by
  rw [unitsBalance_iff] at hs ⊢
  obtain ⟨present, inFlight, closed, safe⟩ := hs
  have moved := h.moves_units present safe closed
  exact ⟨⟨h.length_circuits.trans present, moved.named inFlight, h.keeps_closedEmpty closed, h.keeps_clearIsSafe safe⟩,
    moved.owed inFlight⟩

theorem fullReset_unitsBalance (cause : ResetCause) (s : State) : UnitsBalance (fullReset cause s) := by
  have named : unitsNamed (fullReset cause s) = [] := rfl
  rw [unitsBalance_iff]
  refine ⟨length_circuits_fullReset cause s, fun c d => ?_, fun _ => rfl, .of_none (by
    simp [fullReset, State.afterReset, Engine.reset])⟩
  rw [circ_fullReset, named]
  cases d <;> rfl

theorem fullReset_owedWithinCap (cause : ResetCause) (s : State) : OwedWithinCap (fullReset cause s) := by
  intro c d
  rw [circ_fullReset]
  cases d <;> simp [CircuitState.cleared, CircuitState.dir, DirState.owed, DirState.cleared]

theorem millisecond_unitsBalance (s : State) (hs : UnitsBalance s) : UnitsBalance (millisecond s) := by
  have circ := circ_of_circuits (s := s) (t := millisecond s) (by simp)
  rw [unitsBalance_iff] at hs ⊢
  simpa [circ, unitsNamed] using hs

/-- Settles O57: units move between the records, the claims and the directions by five updates, and those of METERING_CLEAR's
claim find none. -/
theorem everyStepKeepsTheUnitsBalanced : Obligations.EveryStepKeepsTheUnitsBalanced := fun _ _ hs h =>
  ⟨step_keeps fullReset_unitsBalance millisecond_unitsBalance
      (fun _ _ hs => ⟨hs.circuits, hs.inFlight, hs.closed, hs.clear⟩) (fun _ _ _ h hs => (h.keeps_balance hs).1) hs h,
    fun cap => (step_keeps (P := fun s => UnitsBalance s ∧ OwedWithinCap s)
      (fun cause s => ⟨fullReset_unitsBalance cause s, fullReset_owedWithinCap cause s⟩)
      (fun s hs => ⟨millisecond_unitsBalance s hs.1, fun c d => by
        rw [circ_of_circuits (s := s) (by simp)]
        exact hs.2 c d⟩)
      (fun _ _ hs => ⟨⟨hs.1.circuits, hs.1.inFlight, hs.1.closed, hs.1.clear⟩, hs.2⟩)
      (fun _ _ _ h hs => ⟨(h.keeps_balance hs.1).1, (h.keeps_balance hs.1).2 hs.2⟩) ⟨hs, cap⟩ h).2⟩

end Sys2Proof.Machine
end


section
/-! PROOFS. The account of SAMPLE frames (2.6) and of current samples (5.2). -/

namespace Sys2Proof.Machine

variable {i : Instr} {s t : State}

/-! ### SAMPLE frames -/

/-- The account depends on the queue, the frame in metering and the counters alone. -/
theorem scanAccount_of_fields {e f : Engine} (queue : f.queue = e.queue) (metering : f.metering = e.metering)
    (counters : f.counters = e.counters) : scanAccount f = scanAccount e := by
  simp only [scanAccount, queue, metering, counters]

/-- A fault counts every queued frame that it drops (R63). -/
theorem faultPlan_scanAccount (computed : Word) (s : State) :
    scanAccount (faultPlan computed s).engine = scanAccount s.engine := by
  simp only [scanAccount, faultPlan, State.onPlan_engine, State.onEngine_engine, post_keeps, State.onPart_engine,
    List.length_nil, Nat.zero_add, BitVec.ofNat_add]
  ac_rfl

theorem Update.keeps_scanAccount (h : Update i s t) (hi : keepsScanAccount i = true) :
    scanAccount t.engine = scanAccount s.engine := by
  have same {t : State} (engine : t.engine = s.engine) : scanAccount t.engine = scanAccount s.engine := by rw [engine]
  cases h with
  | engine f _ _ account => exact account hi
  | faults computed => exact faultPlan_scanAccount computed s
  | retires n =>
    unfold retire
    dsimp only
    split
    · exact same (by simp)
    · exact scanAccount_of_fields (by simp [placeClaim]) (by simp [placeClaim]) (by simp [placeClaim])
  | places | placesClear | takesClaim => exact scanAccount_of_fields rfl rfl rfl
  | restoring | releases | restores | clears =>
    exact scanAccount_of_fields (by simp [placeClaim, dropClaim]) (by simp [placeClaim, dropClaim])
      (by simp [placeClaim, dropClaim])
  | closesCircuit => exact same (by simp)
  | _ => exact same (by simp)

/-- A frame offered for metering is counted once, in a counter or as a place of the queue (R27, R28). -/
theorem acceptSample_scanAccount (node : Byte) (body : List Byte) (s : State) :
    scanAccount (acceptSample node body s).engine = scanAccount s.engine + 1 := by
  unfold acceptSample admitSample
  simp only [apply_ite State.engine, apply_ite scanAccount]
  split
  · simp only [scanAccount, State.onScanCounters_engine]; ac_rfl
  split
  · simp only [scanAccount, State.onScanCounters_engine]; ac_rfl
  split
  · simp only [scanAccount, State.onScanCounters_engine]; ac_rfl
  split
  · simp only [scanAccount, State.onScanCounters_engine]; ac_rfl
  split
  · simp only [scanAccount, State.onEngine_engine, List.length_append, List.length_singleton, BitVec.ofNat_add]
    have one : 1#32 = (1 : Word) := rfl
    rw [one]
    ac_rfl
  · simp only [scanAccount, post_keeps, State.onScanCounters_engine]; ac_rfl

theorem word_add_zero (w : Word) : w + 0 = w := BitVec.add_zero w

theorem fieldFrame_scanAccount (f : Frame) (s : State) : scanAccount (fieldFrame f s).engine =
    scanAccount s.engine + if takesIn s.part.state = true ∧ frameKind f = 0x10 then 1 else 0 := by
  unfold fieldFrame
  dsimp only
  split
  · next takes =>
    have takes : takesIn s.part.state = true ∧ frameKind f = 0x10 := takes
    rw [acceptSample_scanAccount, if_pos takes, (offerUp_keeps f s).2.2.1]
  · next takes =>
    have takes : ¬ (takesIn s.part.state = true ∧ frameKind f = 0x10) := takes
    rw [if_neg takes, (offerUp_keeps f s).2.2.1, word_add_zero]

/-- What a frame end at the Field port adds to the account: one for a good SAMPLE frame where the part takes frames. -/
def sampleArrivals (s : State) : Word :=
  match s.links.field.reception with
  | .assembling f =>
    if 6 ≤ f.length ∧ goodFrame f = true ∧ frameKind f = 0x10 ∧ takesIn s.part.state = true then 1 else 0
  | .idle => 0
  | .skipping => 0

theorem endReception_scanAccount (s : State) :
    scanAccount (endReception .field s).engine = scanAccount s.engine + sampleArrivals s := by
  have reception : (s.port .field).reception = s.links.field.reception := rfl
  unfold endReception sampleArrivals
  rw [reception]
  cases s.links.field.reception with
  | assembling f =>
    have smallest : Config.smallestFrame = 6 := rfl
    unfold checkReception
    dsimp only
    rw [smallest]
    split
    · next short =>
      rw [if_neg fun h => absurd h.1 (by omega), word_add_zero]
      rfl
    split
    · next bad =>
      rw [if_neg fun h => by simp [h.2.1] at bad, word_add_zero]
      rfl
    · next long good =>
      refine (fieldFrame_scanAccount f _).trans (congrArg (scanAccount s.engine + ·) (if_congr ?_ rfl rfl))
      have good : goodFrame f = true := by simpa using good
      have long : 6 ≤ f.length := by omega
      simp [good, long, and_comm]
  | idle => exact (word_add_zero _).symm
  | skipping => exact (word_add_zero _).symm

theorem frameEnd_scanAccount (together : Option LinkLoss) (h : execFrameEnd ⟨.field, together⟩ s = .next t) :
    scanAccount t.engine =
      scanAccount s.engine + if s.links.field.state = .up then sampleArrivals s else 0 := by
  have noAck : ackEnding .field s = none := rfl
  have engine (k : LinkLoss) (u : State) : (loseLink .field k u).engine = u.engine := by cases k <;> simp [loseLink]
  unfold execFrameEnd occurs at h
  cases h
  by_cases up : s.links.field.state = .up
  · have up' : (s.port .field).state = .up := up
    rw [if_pos up, if_pos (by simpa using up'), noAck]
    cases together with
    | none => exact endReception_scanAccount s
    | some k =>
      dsimp only
      rw [engine]
      exact endReception_scanAccount s
  · have up' : (s.port .field).state ≠ .up := up
    rw [if_neg up, if_neg (by simpa using up'), word_add_zero]

/-- Settles O19: a frame end at the Field port counts what it offers, and every other command keeps the account. -/
theorem sampleFramesAreAccounted : Obligations.SampleFramesAreAccounted := by
  unfold Obligations.SampleFramesAreAccounted
  intro account i s t h awake notCleared
  show scanAccount t.engine = scanAccount s.engine + _
  by_cases hi : keepsScanAccount i = true
  · obtain ⟨cause, rfl⟩ | updates := exec_cases h
    · exact absurd rfl awake
    have kept : scanAccount t.engine = scanAccount s.engine :=
      updates.keeps (P := fun u => scanAccount u.engine = scanAccount s.engine)
        (fun u v hu same => (hu.keeps_scanAccount hi).trans same) rfl
    rw [kept]
    split
    · simp [keepsScanAccount] at hi
    · exact (word_add_zero _).symm
  · obtain ⟨together, rfl⟩ : ∃ together, i = .frameEnd ⟨.field, together⟩ := by
      unfold keepsScanAccount at hi
      split at hi
      · exact ⟨_, rfl⟩
      · exact absurd rfl notCleared
      · exact absurd rfl hi
    rw [frameEnd_scanAccount together h]
    congr 1
    unfold sampleArrivals
    cases s.links.field.reception with
    | assembling f => by_cases up : s.links.field.state = .up <;> simp [up]
    | idle => simp
    | skipping => simp

end Sys2Proof.Machine
end


section
/-! PROOFS. A pair (R77, R89 to R101) and the quiet floor (R108 to R112), as equations and as what they do to a circuit. -/

namespace Sys2Proof.Machine

variable {s : State}

/-! ### The floor -/

/-- A circuit that has restarted its floor (R110). -/
def CircuitState.floorRestarted (x : CircuitState) : CircuitState := { x with floorAcc := 0, floor := .active }

/-- A circuit after a quiet discard (R112). -/
def CircuitState.discarded (x : CircuitState) : CircuitState :=
  { x with imp := discardEnergy x.imp, exp := discardEnergy x.exp, floorAcc := 0, floor := .quiet }

/-- What a gated pair's visit to the floor makes of a circuit (R109). -/
def CircuitState.floored (r : CircuitRecord) (overflow : Option Direction) (x : CircuitState) : CircuitState :=
  if r.floorEnable then
    match overflow with
    | some _ => x.floorRestarted
    | none =>
      if x.floorAcc + r.floorStep.toNat < r.floorLimit.toNat then { x with floorAcc := x.floorAcc + r.floorStep.toNat }
      else x.discarded
  else x

/-- An update of one circuit depends on what it makes of that circuit alone. -/
theorem onCirc_congr {c : Fin 96} {f g : CircuitState → CircuitState} (h : f (s.circ c) = g (s.circ c)) :
    s.onCirc c f = s.onCirc c g := by simp only [State.onCirc, h]

theorem floorRestart_eq (c : Fin 96) (d : Direction) (s : State) : floorRestart c d s =
    if (s.circ c).floor = .quiet then
      post .circuitActive (BitVec.ofNat 16 c.val) (directionCode d) (s.onCirc c CircuitState.floorRestarted)
    else s.onCirc c CircuitState.floorRestarted := rfl

theorem quietDiscard_eq (c : Fin 96) (s : State) : quietDiscard c s =
    if (s.circ c).floor = .active then
      post .circuitQuiet (BitVec.ofNat 16 c.val)
        (BitVec.ofNat 32 (min ((s.circ c).imp.accumulator + (s.circ c).exp.accumulator) 4294967295))
        (s.onCirc c CircuitState.discarded)
    else s.onCirc c CircuitState.discarded := rfl

/-- The floor's step, the discard at its limit read from the circuit as it was before the step (R111, R112). -/
theorem floorStep_eq (r : CircuitRecord) (c : Fin 96) (present : s.circuits.length = 96) : floorStep r c s =
    if (s.circ c).floorAcc + r.floorStep.toNat < r.floorLimit.toNat then
      s.onCirc c fun x => { x with floorAcc := x.floorAcc + r.floorStep.toNat }
    else quietDiscard c s := by
  unfold floorStep
  dsimp only
  split
  · exact onCirc_congr rfl
  · rw [quietDiscard_eq, quietDiscard_eq, State.circ_onCirc_self c _ s present, onCirc_onCirc _ _ _ _ present]
    rfl

theorem circ_floorAtPair (r : CircuitRecord) (c e : Fin 96) (o : Option Direction) (present : s.circuits.length = 96) :
    (floorAtPair r c o s).circ e = if e = c then (s.circ c).floored r o else s.circ e := by
  have posted {p : Prop} [Decidable p] (k : EventKind) (a : Half) (v : Word) (t : State) :
      (if p then post k a v t else t).circ e = t.circ e := by split <;> rfl
  unfold floorAtPair CircuitState.floored
  split
  · cases o with
    | some d => dsimp only; rw [floorRestart_eq, posted, State.circ_onCirc _ _ _ _ present]
    | none =>
      dsimp only
      rw [floorStep_eq r c present]
      split
      · rw [State.circ_onCirc _ _ _ _ present]
      · rw [quietDiscard_eq, posted, State.circ_onCirc _ _ _ _ present]
  · split
    · next h => rw [h]
    · rfl

theorem directionCode_eq (d : Direction) : directionCode d = if d = .imp then 0 else 1 := by cases d <;> rfl

/-- Settles O26, by whether the floor is enabled, an overflow was taken, the limit is reached, and the state it had. -/
theorem floorRestartsStepsAndDiscards : Obligations.FloorRestartsStepsAndDiscards := by
  intro r c s present x sum energy quiet active
  have restarted : s.onCirc c CircuitState.floorRestarted = active := rfl
  have discarded : s.onCirc c CircuitState.discarded = quiet := onCirc_congr rfl
  refine ⟨fun disabled o => by simp [floorAtPair, disabled], fun enabled => ?_⟩
  have overflow (d : Direction) : floorAtPair r c (some d) s = floorRestart c d s := if_pos enabled
  have step : floorAtPair r c none s = floorStep r c s := if_pos enabled
  refine ⟨fun d was => ?_, fun d was => ?_, fun below => ?_, fun reached was => ?_, fun reached was => ?_⟩
  · rw [overflow, floorRestart_eq, if_neg (by simp [show (s.circ c).floor = .active from was]), restarted]
  · rw [overflow, floorRestart_eq, if_pos was, restarted, directionCode_eq]
  · rw [step, floorStep_eq r c present, if_pos below]
    exact onCirc_congr rfl
  · rw [step, floorStep_eq r c present, if_neg (Nat.not_lt.mpr reached), quietDiscard_eq,
      if_neg (by simp [show (s.circ c).floor = .quiet from was]), discarded]
  · rw [step, floorStep_eq r c present, if_neg (Nat.not_lt.mpr reached), quietDiscard_eq, if_pos was, discarded]

/-! ### Energy and overflow -/

/-- A pair counted in a circuit, one direction's state replaced. -/
def CircuitState.counted (d : Direction) (f : DirState → DirState) (x : CircuitState) : CircuitState :=
  { x.onDir d f with paired := x.paired + 1 }

section
variable {c : Fin 96} {d : Direction} {f : DirState → DirState}

theorem dir_counted (present : s.circuits.length = 96) :
    ((s.onCirc c (CircuitState.counted d f)).circ c).dir d = f ((s.circ c).dir d) := by
  rw [State.circ_onCirc_self c _ s present]
  cases d <;> rfl

/-- A further update of the direction of a counted pair. -/
theorem onDir_counted (present : s.circuits.length = 96) (g : DirState → DirState) :
    (s.onCirc c (CircuitState.counted d f)).onDir c d g = s.onCirc c (CircuitState.counted d fun x => g (f x)) := by
  rw [State.onDir, onCirc_onCirc _ _ _ _ present]
  refine onCirc_congr ?_
  cases d <;> rfl

theorem counted_eq (f : DirState → DirState) (y : DirState) (h : f ((s.circ c).dir d) = y) :
    s.onCirc c (CircuitState.counted d f) = s.onCirc c (CircuitState.counted d fun _ => y) := by
  refine onCirc_congr ?_
  subst h
  cases d <;> rfl

/-- The effective quantum (R93), with the model's value for an acceleration of 0. -/
theorem effectiveQuantum_eq (r : CircuitRecord) : effectiveQuantum r =
    max 1 (if r.acceleration = 0 then Config.quotientByZero r.quantum else r.quantum.toNat / r.acceleration.toNat) := by
  unfold effectiveQuantum
  split <;> rfl

theorem selects_iff (sel : Select) (d : Direction) :
    selects sel d = true ↔ sel = .both ∨ (sel = .imp ∧ d = .imp) ∨ (sel = .exp ∧ d = .exp) := by
  cases sel <;> cases d <;> simp [selects]

/-- A unit is generated (R95). -/
def unitGenerated (r : CircuitRecord) (holdover : Bool) (x : DirState) : DirState :=
  { x with pending := x.pending + 1, test := x.test || decide (1 < r.acceleration.toNat), holdover := x.holdover || holdover }

/-- An overflow leaves the accumulator, and the partial count stands at n (R93, R94). -/
def overflowTaken (r : CircuitRecord) (n : Nat) (x : DirState) : DirState :=
  { x with accumulator := x.accumulator - effectiveQuantum r, partialCount := n }

/-- An overflow of a direction is taken (R93, R98). -/
def overflows (r : CircuitRecord) (d : Direction) (x : DirState) : Bool := overflowDue r x && !capBlocks r d x

/-- The overflow check leaves a direction, its energy joined, in this state (R93 to R98). -/
def DirState.metered (r : CircuitRecord) (d : Direction) (holdover : Bool) (x : DirState) : DirState :=
  if overflows r d x then
    if x.partialCount + 1 = r.divisor.toNat then
      if selects r.select d then unitGenerated r holdover (overflowTaken r 0 x)
      else { overflowTaken r 0 x with suppressed := x.suppressed + 1 }
    else overflowTaken r (x.partialCount + 1) x
  else if overflowDue r x then { x with blocked := true }
  else x

/-- An overflow of a direction generates a unit (R94, R95). -/
def generates (r : CircuitRecord) (d : Direction) (x : DirState) : Prop :=
  overflows r d x = true ∧ x.partialCount + 1 = r.divisor.toNat ∧ selects r.select d = true

/-- What an overflow check makes known: CIRCUIT_BLOCKED at the cap, and an urgent trigger for a unit that reaches the urgent
level (R95, R98). -/
def announced (r : CircuitRecord) (c : Fin 96) (d : Direction) (x : DirState) (s t : State) : State :=
  if overflowDue r x = true ∧ capBlocks r d x = true then
    post .circuitBlocked (BitVec.ofNat 16 c.val) (directionCode d) t
  else if overflows r d x = true ∧ x.partialCount + 1 = r.divisor.toNat ∧ selects r.select d = true ∧
      s.builder.urgent ≤ x.pending + 1 then trigger ⟨false, false, true⟩ t
  else t

theorem takeOverflow_counted (r : CircuitRecord) (present : s.circuits.length = 96) {x : DirState}
    (hx : f ((s.circ c).dir d) = x) (free : overflows r d x = true) :
    takeOverflow r c d (s.onCirc c (CircuitState.counted d f)) =
      announced r c d x s
        (s.onCirc c (CircuitState.counted d fun _ => x.metered r d (s.sync.state == .holdover))) := by
  subst hx
  have noCap : ¬ (overflowDue r (f ((s.circ c).dir d)) = true ∧ capBlocks r d (f ((s.circ c).dir d)) = true) :=
    fun h => by simp [overflows, h.2] at free
  unfold takeOverflow unitDue generateUnit announced DirState.metered
  simp only [dir_counted present, onDir_counted present, State.onCirc_builder, State.onCirc_sync, if_neg noCap, free,
    true_and, if_true]
  split
  · next full =>
    split
    · next selected =>
      simp only [full, selected, true_and]
      split
      · rw [counted_eq _ _ rfl]; rfl
      · rw [counted_eq _ _ rfl]; rfl
    · next other =>
      rw [if_neg fun h => other h.2.1, counted_eq _ _ rfl]; rfl
  · next part =>
    rw [if_neg fun h => part h.1, counted_eq _ _ rfl]; rfl

/-- The overflow check of a counted pair (R93, R98). -/
theorem overflowCheck_counted (r : CircuitRecord) (present : s.circuits.length = 96) {x : DirState}
    (hx : f ((s.circ c).dir d) = x) : overflowCheck r c d (s.onCirc c (CircuitState.counted d f)) =
      (announced r c d x s (s.onCirc c (CircuitState.counted d fun _ => x.metered r d (s.sync.state == .holdover))),
        overflows r d x) := by
  unfold overflowCheck
  simp only [dir_counted present, onDir_counted present, hx]
  split
  · next due =>
    split
    · next cap =>
      have none : overflows r d x = false := by simp [overflows, cap]
      rw [announced, if_pos ⟨due, cap⟩, DirState.metered, if_neg (by simp [none]), if_pos due, none,
        counted_eq (fun y => { f y with blocked := true }) _ (by rw [hx])]
    · next free =>
      have taken : overflows r d x = true := by simpa [overflows, due] using free
      rw [takeOverflow_counted r present hx taken, taken]
  · next idle =>
    have none : overflows r d x = false := by simp [overflows, idle]
    rw [announced, if_neg fun h => idle h.1, if_neg fun h => by simp [none] at h, DirState.metered, if_neg (by simp [none]),
      if_neg idle, none, counted_eq _ _ hx]

end

/-- The energy of a pair in one direction, counted, checked for an overflow and shown to the floor (R92 to R101). -/
theorem accumulatePair_of_direction (r : CircuitRecord) (c : Fin 96) (i v : Half) (d : Direction)
    (present : s.circuits.length = 96) (direction : energyDirection (correctedProduct r i v) = some d) :
    accumulatePair r c i v s =
      let x := addEnergy (correctedProduct r i v).natAbs ((s.circ c).dir d)
      floorAtPair r c (if overflows r d x then some d else none) (announced r c d x s
        (s.onCirc c (CircuitState.counted d fun _ => x.metered r d (s.sync.state == .holdover)))) := by
  have joined : (s.onCirc c fun x => { x with paired := x.paired + 1 }).onDir c d
      (addEnergy (correctedProduct r i v).natAbs) =
      s.onCirc c (CircuitState.counted d (addEnergy (correctedProduct r i v).natAbs)) := by
    rw [State.onDir, onCirc_onCirc _ _ _ _ present]
    refine onCirc_congr ?_
    cases d <;> rfl
  unfold accumulatePair
  dsimp only
  rw [direction]
  dsimp only
  rw [joined, overflowCheck_counted r present rfl]

theorem addEnergy_eq (n : Nat) (x : DirState) : addEnergy n x = { x with
    accumulator := min (x.accumulator + n) 281474976710655
    satLoss := if x.accumulator + n ≤ 281474976710655 then x.satLoss
      else min (x.satLoss + (x.accumulator + n - 281474976710655)) 281474976710655 } := by
  have most : Config.energyMax = 281474976710655 := rfl
  unfold addEnergy
  rw [most]
  split
  · next fits => rw [Nat.min_eq_left fits]
  · next large => rw [Nat.min_eq_right (Nat.le_of_not_le large)]

theorem energyDirection_iff (p : Int) (d : Direction) :
    energyDirection p = some d ↔ if d = .imp then 0 < p else p < 0 := by
  unfold energyDirection
  split
  · cases d <;> simp <;> omega
  · split <;> cases d <;> simp <;> omega

theorem gateOpen_iff (k : CensusState) : gateOpen k = true ↔ k = .qualified ∨ k = .unchecked := by
  cases k <;> simp [gateOpen]

/-- Settles O25: the gate by the census state, then the pair through its energy, its overflow and the floor. -/
theorem pairsPassTheGateAddEnergyAndOverflow : Obligations.PairsPassTheGateAddEnergyAndOverflow := by
  refine ⟨fun p c i v s => ⟨fun opens => ?_, fun shut shut' => ?_⟩, fun r c i v s zero => ?_, ?_⟩
  · exact if_pos ((gateOpen_iff _).mpr opens)
  · exact if_neg fun opens => ((gateOpen_iff _).mp opens).elim shut shut'
  · simp [accumulatePair, zero, energyDirection]
  · intro r c i v d s present direction x energy held quantum selected due atCap overflow unit y counted
    rw [accumulatePair_of_direction r c i v d present ((energyDirection_iff _ _).mpr direction)]
    have hquantum : effectiveQuantum r = quantum := effectiveQuantum_eq r
    have hselected : selects r.select d = true ↔ selected := selects_iff _ _
    have hdue : overflowDue r (addEnergy energy x) = true ↔ due := by
      simp only [overflowDue, hquantum, addEnergy_eq, Bool.and_eq_true, decide_eq_true_eq, Bool.not_eq_true', due, held]
    have hcap : capBlocks r d (addEnergy energy x) = true ↔ atCap := by
      simp only [capBlocks, addEnergy_eq, Bool.and_eq_true, decide_eq_true_eq, hselected, atCap]
      rfl
    have hoverflow : overflows r d (addEnergy energy x) = true ↔ overflow := by
      rw [overflows, Bool.and_eq_true, hdue, Bool.not_eq_true', ← Bool.not_eq_true, hcap]
    have partialCount : (addEnergy energy x).partialCount = x.partialCount := by rw [addEnergy_eq]
    have pending : (addEnergy energy x).pending = x.pending := by rw [addEnergy_eq]
    have hy : (addEnergy energy x).metered r d (s.sync.state == .holdover) = y := by
      simp only [DirState.metered, hoverflow, hdue, hselected, partialCount]
      by_cases taken : overflow
      · by_cases full : x.partialCount + 1 = r.divisor.toNat
        · have isUnit : unit := ⟨taken, full⟩
          by_cases isSelected : selected <;>
            simp [y, taken, full, isUnit, taken.2, isSelected, addEnergy_eq, held, unitGenerated, overflowTaken, hquantum,
              Bool.beq_eq_decide_eq]
        · have noUnit : ¬ unit := fun h => full h.2
          simp [y, taken, full, noUnit, taken.2, addEnergy_eq, held, overflowTaken, hquantum]
      · have noUnit : ¬ unit := fun h => taken h.1
        by_cases isDue : due
        · have isCap : atCap := Classical.not_not.mp fun h => taken ⟨isDue, h⟩
          simp [y, taken, noUnit, isDue, isCap, addEnergy_eq, held]
        · simp [y, taken, noUnit, isDue, addEnergy_eq, held]
    show floorAtPair r c (if overflows r d (addEnergy energy x) then some d else none)
      (announced r c d (addEnergy energy x) s (s.onCirc c
        (CircuitState.counted d fun _ => (addEnergy energy x).metered r d (s.sync.state == .holdover)))) = _
    rw [hy]
    simp only [announced, hdue, hcap, hoverflow, hselected, partialCount, pending, directionCode_eq]
    have sameUnit : (overflow ∧ x.partialCount + 1 = r.divisor.toNat ∧ selected ∧ s.builder.urgent ≤ x.pending + 1) ↔
        (unit ∧ selected ∧ s.builder.urgent ≤ x.pending + 1) := and_assoc.symm
    rw [if_congr sameUnit rfl rfl]
    rfl

end Sys2Proof.Machine
end


section
/-! PROOFS. What a pair, and the service of a park queue, make of a circuit (R86 to R101), and the account of current samples
(5.2). -/

namespace Sys2Proof.Machine

variable {i : Instr} {s t : State}

/-! ### A pair, circuit by circuit -/

/-- A circuit after a pair that passed the gate (R101). -/
def CircuitState.accumulated (r : CircuitRecord) (holdover : Bool) (i v : Half) (x : CircuitState) : CircuitState :=
  match energyDirection (correctedProduct r i v) with
  | none => CircuitState.floored r none { x with paired := x.paired + 1 }
  | some d =>
    let y := addEnergy (correctedProduct r i v).natAbs (x.dir d)
    (x.counted d fun _ => y.metered r d holdover).floored r (if overflows r d y then some d else none)

/-- A circuit after a pair, by the gate (R77). -/
def CircuitState.withPair (r : CircuitRecord) (gate holdover : Bool) (i v : Half) (x : CircuitState) : CircuitState :=
  if gate then x.accumulated r holdover i v else { x with unqualified := x.unqualified + 1 }

@[simp] theorem circ_announced (r : CircuitRecord) (c e : Fin 96) (d : Direction) (x : DirState) (s t : State) :
    (announced r c d x s t).circ e = t.circ e := by
  unfold announced
  split
  · rfl
  · split
    · exact circ_trigger _ _ _
    · rfl

theorem length_announced (r : CircuitRecord) (c : Fin 96) (d : Direction) (x : DirState) (s t : State) :
    (announced r c d x s t).circuits = t.circuits := by
  unfold announced
  split
  · simp
  · split <;> simp

theorem circ_accumulatePair (r : CircuitRecord) (c e : Fin 96) (i v : Half) (present : s.circuits.length = 96) :
    (accumulatePair r c i v s).circ e =
      if e = c then (s.circ c).accumulated r (s.sync.state == .holdover) i v else s.circ e := by
  unfold CircuitState.accumulated
  cases direction : energyDirection (correctedProduct r i v) with
  | none =>
    have noEnergy : accumulatePair r c i v s =
        floorAtPair r c none (s.onCirc c fun x => { x with paired := x.paired + 1 }) := by
      simp only [accumulatePair, direction]
    rw [noEnergy, circ_floorAtPair _ _ _ _ (by simpa using present)]
    by_cases he : e = c <;> simp [State.circ_onCirc, present, he]
  | some d =>
    rw [accumulatePair_of_direction r c i v d present direction]
    dsimp only
    rw [circ_floorAtPair _ _ _ _ (by rw [length_announced]; simpa using present)]
    by_cases he : e = c <;> simp [State.circ_onCirc, present, he]

theorem circ_formPair (p : PlanContents) (c e : Fin 96) (i v : Half) (present : s.circuits.length = 96) :
    (formPair p c i v s).circ e =
      if e = c then (s.circ c).withPair (circuitRecord p c) (gateOpen (s.ref (circuitRecord p c).reference).census.state)
        (s.sync.state == .holdover) i v
      else s.circ e := by
  unfold formPair CircuitState.withPair
  dsimp only
  split
  · exact circ_accumulatePair _ _ _ _ _ present
  · rw [State.circ_onCirc _ _ _ _ present]

/-! ### Park service, circuit by circuit -/

/-- A circuit after the service of the head of its park queue, of which l is the rest (R88). -/
def CircuitState.headServed (r : CircuitRecord) (gate holdover : Bool) (ring : List RingSample) (h : Parked)
    (l : List Parked) (x : CircuitState) : CircuitState :=
  match ringLookup ring h.scan with
  | some y => CircuitState.withPair r gate holdover h.value y.value { x with park := l }
  | none => { x with park := l, missed := x.missed + 1 }

/-- A circuit after the service of its park queue (R88). -/
def CircuitState.served (r : CircuitRecord) (gate holdover : Bool) (ring : List RingSample) (u : Half) :
    List Parked → CircuitState → CircuitState
  | [], x => x
  | h :: rest, x =>
    if newer h.scan u then x
    else CircuitState.served r gate holdover ring u rest (x.headServed r gate holdover ring h rest)

/-- What one parked sample's service makes of the state: the sample leaves, and pairs or is missed (R88). -/
def serveHead (p : PlanContents) (ring : List RingSample) (c : Fin 96) (h : Parked) (rest : List Parked) (s : State) : State :=
  match ringLookup ring h.scan with
  | some y => formPair p c h.value y.value (s.onCirc c fun x => { x with park := rest })
  | none => countMiss c (s.onCirc c fun x => { x with park := rest })

theorem servePark_cons (p : PlanContents) (ring : List RingSample) (u : Half) (c : Fin 96) (h : Parked) (rest : List Parked)
    (s : State) : servePark p ring u c (h :: rest) s =
      if newer h.scan u then s else servePark p ring u c rest (serveHead p ring c h rest s) := rfl

/-- The service of a parked sample leaves references, sync monitor and the length of the table. -/
theorem serveHead_keeps (p : PlanContents) (ring : List RingSample) (c : Fin 96) (h : Parked) (rest : List Parked)
    (s : State) : (serveHead p ring c h rest s).refs = s.refs ∧ (serveHead p ring c h rest s).sync = s.sync ∧
      (serveHead p ring c h rest s).circuits.length = s.circuits.length := by
  have length (t : State) (i v : Half) : (formPair p c i v t).circuits.length = t.circuits.length :=
    (formPair_updates (i := .currentSample) rfl p c i v t).keeps
      (P := fun u => u.circuits.length = t.circuits.length) (fun _ _ hu same => hu.length_circuits.trans same) rfl
  unfold serveHead
  split <;> simp [length, countMiss]

theorem circ_serveHead (p : PlanContents) (ring : List RingSample) (c e : Fin 96) (h : Parked) (rest : List Parked)
    (present : s.circuits.length = 96) : (serveHead p ring c h rest s).circ e =
      if e = c then (s.circ c).headServed (circuitRecord p c)
        (gateOpen (s.ref (circuitRecord p c).reference).census.state) (s.sync.state == .holdover) ring h rest
      else s.circ e := by
  unfold serveHead CircuitState.headServed
  have gate (f : CircuitState → CircuitState) (r : Fin 16) : (s.onCirc c f).ref r = s.ref r := rfl
  split
  · rw [circ_formPair _ _ _ _ _ (by simpa using present), State.circ_onCirc_self _ _ _ present, gate, State.onCirc_sync]
    by_cases he : e = c <;> simp [State.circ_onCirc, present, he]
  · rw [countMiss, onCirc_onCirc _ _ _ _ present]
    by_cases he : e = c <;> simp [State.circ_onCirc, present, he]

theorem circ_servePark (p : PlanContents) (ring : List RingSample) (u : Half) (c e : Fin 96) (l : List Parked)
    (present : s.circuits.length = 96) : (servePark p ring u c l s).circ e =
      if e = c then (s.circ c).served (circuitRecord p c)
        (gateOpen (s.ref (circuitRecord p c).reference).census.state) (s.sync.state == .holdover) ring u l
      else s.circ e := by
  induction l generalizing s with
  | nil => by_cases he : e = c <;> simp [servePark, CircuitState.served, he]
  | cons h rest ih =>
    obtain ⟨refs, sync, length⟩ := serveHead_keeps p ring c h rest s
    rw [servePark_cons, CircuitState.served]
    split
    · split
      · next he => rw [he]
      · rfl
    · have gate (r : Fin 16) : (serveHead p ring c h rest s).ref r = s.ref r := by rw [State.ref, State.ref, refs]
      rw [ih (length.trans present), gate, sync, circ_serveHead _ _ _ _ _ _ present, circ_serveHead _ _ _ _ _ _ present,
        if_pos rfl]
      by_cases he : e = c <;> simp [he]

theorem length_servePark (p : PlanContents) (ring : List RingSample) (u : Half) (c : Fin 96) (l : List Parked) (s : State) :
    (servePark p ring u c l s).circuits.length = s.circuits.length := by
  induction l generalizing s with
  | nil => rfl
  | cons h rest ih =>
    rw [servePark_cons]
    split
    · rfl
    · rw [ih, (serveHead_keeps p ring c h rest s).2.2]

theorem nodup_allCircuits : allCircuits.Nodup := by
  rw [allCircuits_eq_finRange]
  exact List.nodup_finRange 96

theorem mem_servedCircuits (p : PlanContents) (r : Fin 16) (c : Fin 96) :
    c ∈ servedCircuits p r ↔ (circuitRecord p c).enabled = true ∧ (circuitRecord p c).reference = r := by
  simp [servedCircuits, mem_allCircuits]

/-- The service of one circuit after another, of which none is visited twice. -/
theorem circ_foldl_servePark (p : PlanContents) (r : Fin 16) (u : Half) (l : List (Fin 96)) (distinct : l.Nodup)
    (naming : ∀ c ∈ l, (circuitRecord p c).reference = r) (present : s.circuits.length = 96) (c : Fin 96) :
    (l.foldl (fun t c => servePark p (t.ref r).ring u c (t.circ c).park t) s).circ c =
      if c ∈ l then (s.circ c).served (circuitRecord p c) (gateOpen (s.ref r).census.state)
        (s.sync.state == .holdover) (s.ref r).ring u (s.circ c).park
      else s.circ c := by
  induction l generalizing s with
  | nil => rfl
  | cons e rest ih =>
    obtain ⟨he, distinct⟩ := List.nodup_cons.mp distinct
    have refs : (servePark p (s.ref r).ring u e (s.circ e).park s).ref r = s.ref r := by
      rw [State.ref, State.ref]
      simp
    have sync : (servePark p (s.ref r).ring u e (s.circ e).park s).sync = s.sync := by simp
    rw [List.foldl_cons, ih distinct (fun c hc => naming c (List.mem_cons_of_mem e hc))
      ((length_servePark _ _ _ _ _ s).trans present), refs, sync,
      circ_servePark _ _ _ _ _ _ present, naming e List.mem_cons_self]
    by_cases hce : c = e
    · subst hce
      simp [he]
    · simp [hce]

theorem circ_parkService (p : PlanContents) (r : Fin 16) (u : Half) (present : s.circuits.length = 96) (c : Fin 96) :
    (parkService p r u s).circ c =
      if (circuitRecord p c).enabled = true ∧ (circuitRecord p c).reference = r then
        (s.circ c).served (circuitRecord p c) (gateOpen (s.ref r).census.state) (s.sync.state == .holdover)
          (s.ref r).ring u (s.circ c).park
      else s.circ c := by
  have distinct : (servedCircuits p r).Nodup := nodup_allCircuits.filter _
  unfold parkService
  rw [circ_foldl_servePark p r u _ distinct (fun c hc => ((mem_servedCircuits p r c).mp hc).2) present]
  exact if_congr (mem_servedCircuits p r c) rfl rfl

/-! ### The counters of a circuit -/

/-- What the direction states and the floor of a circuit leave aside: the park queue and the five counters. -/
def CircuitState.tallies (x : CircuitState) : List Parked × Word × Word × Word × Word × Word :=
  (x.park, x.paired, x.missed, x.unqualified, x.flushed, x.duplicate)

theorem floored_tallies (r : CircuitRecord) (o : Option Direction) (x : CircuitState) :
    (x.floored r o).tallies = x.tallies := by
  unfold CircuitState.floored
  split
  · split
    · rfl
    · split <;> rfl
  · rfl

theorem accumulated_tallies (r : CircuitRecord) (holdover : Bool) (i v : Half) (x : CircuitState) :
    (x.accumulated r holdover i v).tallies = CircuitState.tallies { x with paired := x.paired + 1 } := by
  unfold CircuitState.accumulated
  split
  · rw [floored_tallies]
  · next d _ =>
    rw [floored_tallies]
    cases d <;> rfl

theorem withPair_tallies (r : CircuitRecord) (gate holdover : Bool) (i v : Half) (x : CircuitState) :
    (x.withPair r gate holdover i v).tallies =
      if gate then CircuitState.tallies { x with paired := x.paired + 1 }
      else CircuitState.tallies { x with unqualified := x.unqualified + 1 } := by
  unfold CircuitState.withPair
  split
  · exact accumulated_tallies r holdover i v x
  · rfl

theorem sampleAccount_of_tallies {x y : CircuitState} (h : y.tallies = x.tallies) : sampleAccount y = sampleAccount x := by
  simp only [CircuitState.tallies, Prod.mk.injEq] at h
  obtain ⟨park, paired, missed, unqualified, flushed, duplicate⟩ := h
  simp only [sampleAccount, park, paired, missed, unqualified, flushed, duplicate]

theorem withPair_sampleAccount (r : CircuitRecord) (gate holdover : Bool) (i v : Half) (x : CircuitState) :
    sampleAccount (x.withPair r gate holdover i v) = sampleAccount x + 1 := by
  have tallies := withPair_tallies r gate holdover i v x
  split at tallies <;>
  · rw [sampleAccount_of_tallies tallies]
    simp only [sampleAccount]
    ac_rfl

/-- A served parked sample is counted as it leaves. -/
theorem headServed_account (r : CircuitRecord) (gate holdover : Bool) (ring : List RingSample) {h : Parked} {l : List Parked}
    {x : CircuitState} (park : x.park = h :: l) :
    sampleAccount (x.headServed r gate holdover ring h l) = sampleAccount x ∧
      (x.headServed r gate holdover ring h l).park = l := by
  have left : sampleAccount { x with park := l } + 1 = sampleAccount x := by
    have one : BitVec.ofNat 32 1 = (1 : Word) := rfl
    simp only [sampleAccount, park, List.length_cons, BitVec.ofNat_add, one]
    ac_rfl
  unfold CircuitState.headServed
  split
  · refine ⟨by rw [withPair_sampleAccount, left], ?_⟩
    have tallies := withPair_tallies r gate holdover h.value (by assumption : RingSample).value { x with park := l }
    split at tallies <;> exact congrArg Prod.fst tallies
  · refine ⟨?_, rfl⟩
    rw [← left]
    simp only [sampleAccount]
    ac_rfl

theorem served_account (r : CircuitRecord) (gate holdover : Bool) (ring : List RingSample) (u : Half) {l : List Parked}
    {x : CircuitState} (park : x.park = l) :
    sampleAccount (x.served r gate holdover ring u l) = sampleAccount x := by
  induction l generalizing x with
  | nil => rfl
  | cons h rest ih =>
    unfold CircuitState.served
    split
    · rfl
    · obtain ⟨account, left⟩ := headServed_account r gate holdover ring park
      rw [ih left, account]

/-! ### Every command but two keeps the account -/

theorem Update.keeps_sampleAccount (h : Update i s t) (hi : keepsSampleAccount i = true) (c : Fin 96) :
    sampleAccount (t.circ c) = sampleAccount (s.circ c) := by
  have same {t : State} (circuits : t.circuits = s.circuits) : sampleAccount (t.circ c) = sampleAccount (s.circ c) := by
    rw [circ_of_circuits circuits]
  have dir (e : Fin 96) (d : Direction) (f : DirState → DirState) (u : State) :
      sampleAccount ((u.onDir e d f).circ c) = sampleAccount (u.circ c) :=
    onCirc_keeps sampleAccount (fun x => by cases d <;> rfl) e c u
  cases h with
  | closesCircuit p e only => simp [only, keepsSampleAccount] at hi
  | clears next only => simp [only, keepsSampleAccount] at hi
  | parks e x only => simp [only, keepsSampleAccount] at hi
  | records =>
    rw [circ_composed]
    exact visitAll_keeps sampleAccount (fun x d => by cases d <;> rfl) s c
  | releases us =>
    unfold releaseUnits
    rw [foldl_keeps (fun t : State => sampleAccount (t.circ c)) _ fun t u => ?_,
      foldl_keeps (fun t : State => sampleAccount (t.circ c)) lowerInFlight fun t u => dir _ _ _ t]
    · rfl
    · unfold unblockTest
      dsimp only
      split
      · exact dir _ _ _ t
      · rfl
  | restores us => exact foldl_keeps (fun t : State => sampleAccount (t.circ c)) _ (fun t u => dir _ _ _ t) us (dropClaim s)
  | circuit e f tame account =>
    obtain h | ⟨rfl, h⟩ := circ_onCirc_or e c f s <;> rw [h]
    exact account hi
  | circuits f tame account =>
    obtain h | h := circ_map_or f s c <;> rw [h]
    exact account hi _
  | _ => exact same (by simp)

/-! ### Samples -/

theorem circ_sampleDone (d : DueSample) (s : State) (c : Fin 96) : (sampleDone d s).circ c = s.circ c := rfl

theorem voltage_sampleAccount (p : PlanContents) (r : Fin 16) (x : RingSample) (present : s.circuits.length = 96)
    (c : Fin 96) : sampleAccount ((voltage p r x s).circ c) = sampleAccount (s.circ c) := by
  have service (u : Half) (t : State) (ht : t.circuits = s.circuits) :
      sampleAccount ((parkService p r u t).circ c) = sampleAccount (s.circ c) := by
    rw [circ_parkService p r u (by rw [ht]; exact present), circ_of_circuits ht]
    split
    · exact served_account _ _ _ _ _ rfl
    · rfl
  unfold voltage
  dsimp only
  split
  · rfl
  split
  · rfl
  · refine service _ _ ?_
    split <;> simp

/-- Which circuits a current sample is counted for. -/
theorem current_sampleAccount (p : PlanContents) (e : Fin 96) (u v : Half) (present : s.circuits.length = 96) (c : Fin 96) :
    sampleAccount ((current p e u v s).circ c) = sampleAccount (s.circ c) + if c = e then 1 else 0 := by
  have counted (f : CircuitState → CircuitState)
      (h : c = e → sampleAccount (f (s.circ e)) = sampleAccount (s.circ e) + 1) :
      sampleAccount ((s.onCirc e f).circ c) = sampleAccount (s.circ c) + if c = e then 1 else 0 := by
    rw [State.circ_onCirc _ _ _ _ present]
    split
    · next hce => rw [h hce, hce]
    · exact (word_add_zero _).symm
  have one : BitVec.ofNat 32 1 = (1 : Word) := rfl
  unfold current
  dsimp only
  split
  · rw [circ_formPair _ _ _ _ _ present]
    split
    · next hce => rw [withPair_sampleAccount, hce]
    · exact (word_add_zero _).symm
  split
  · exact counted _ fun _ => by simp only [sampleAccount]; ac_rfl
  split
  · rw [parkSample_eq _ _ _ present]
    refine counted _ fun _ => ?_
    simp only [sampleAccount, parkInto, (placeByScan_perm _).length_eq, List.length_cons, BitVec.ofNat_add, one]
    split
    · next full =>
      have tail : BitVec.ofNat 32 (s.circ e).park.tail.length + 1 = (BitVec.ofNat 32 (s.circ e).park.length : Word) := by
        rw [← one, ← BitVec.ofNat_add, List.length_tail, Nat.sub_add_cancel (by omega)]
      rw [tail]
      ac_rfl
    · ac_rfl
  · exact counted _ fun _ => by simp only [sampleAccount]; ac_rfl

/-- Settles O23: a current sample is counted for its circuit, a voltage sample moves parked samples to a counter, and every
other command leaves both or moves one to the other. -/
theorem currentSamplesAreAccounted : Obligations.CurrentSamplesAreAccounted := by
  unfold Obligations.CurrentSamplesAreAccounted
  intro account i s t c present h awake notCleared notCommit notMetering
  refine ⟨fun other => ?_, fun p d hi next => ?_⟩
  · show sampleAccount (t.circ c) = sampleAccount (s.circ c)
    by_cases hv : i = .voltageSample
    · subst hv
      have h : execVoltageSample s = .next t := h
      unfold execVoltageSample at h
      split at h
      · cases h; rfl
      · split at h
        · cases h
          exact voltage_sampleAccount _ _ _ present c
        all_goals cases h; rfl
    · have hi : keepsSampleAccount i = true := by
        unfold keepsSampleAccount
        split
        · exact absurd rfl hv
        · exact absurd rfl other
        · exact absurd rfl notCleared
        · exact absurd rfl notCommit
        · exact absurd rfl notMetering
        · rfl
      obtain ⟨cause, rfl⟩ | updates := exec_cases h
      · exact absurd rfl awake
      · exact updates.keeps (P := fun u => sampleAccount (u.circ c) = sampleAccount (s.circ c))
          (fun u v hu same => (hu.keeps_sampleAccount hi c).trans same) rfl
  · subst hi
    show sampleAccount (t.circ c) = sampleAccount (s.circ c) + _
    have h : execCurrentSample s = .next t := h
    have next : nextSample s = some (p, d) := next
    simp only [execCurrentSample, next] at h
    cases handling : handlingOf p d.target with
    | current e =>
      rw [handling] at h
      cases h
      rw [circ_sampleDone, current_sampleAccount p e _ _ present]
      simp only [Handling.current.injEq, eq_comm]
    | unmapped | skipped | voltage =>
      rw [handling] at h
      cases h
      simp

end Sys2Proof.Machine
end


section
/-! PROOFS. Voltage samples and current samples at their rings and park queues (R65 to R67, R86 to R88). -/

namespace Sys2Proof.Machine

variable {s t : State}

/-! ### A sample handled -/

/-- The sample just handled leaves the frame in metering (R32). -/
theorem sampleDone_eq {p : PlanContents} {d : DueSample} {rest : List DueSample}
    (h : t.engine.metering = some ⟨p, d :: rest⟩) : sampleDone d t = { t with engine := { t.engine with
      metering := some ⟨p, rest⟩, lastScan := if d.endsScan then d.scan else t.engine.lastScan } } := by
  simp [sampleDone, State.onEngine, h]

theorem nextSample_of_metering {p : PlanContents} {d : DueSample} {rest : List DueSample}
    (h : s.engine.metering = some ⟨p, d :: rest⟩) : nextSample s = some (p, d) := by
  simp [nextSample, h]

theorem metering_of_claims {m : Option Metering} (h : SameButClaims s t) (hs : s.engine.metering = m) :
    t.engine.metering = m := h.fields.2.1.trans hs

theorem ringLookup_eq_none_iff (ring : List RingSample) (u : Half) :
    ringLookup ring u = none ↔ ∀ y ∈ ring, y.scan ≠ u := by
  simp [ringLookup]

theorem isNewNewest_iff (ring : List RingSample) (u : Half) :
    isNewNewest ring u = true ↔ ring = [] ∨ ∃ n, ring.getLast? = some n ∧ newer u n.scan = true := by
  unfold isNewNewest ringNewest
  cases h : ring.getLast? with
  | none => simp [List.getLast?_eq_none_iff.mp h]
  | some n =>
    have ne : ring ≠ [] := by rintro rfl; simp at h
    simp [ne]

/-! ### Current samples -/

theorem applyPolarity_eq (p : Polarity) (v : Half) : applyPolarity p v =
    if p = .normal then v else if v.toInt = -32768 then 32767 else -v := by
  have least : v = 0x8000 ↔ v.toInt = -32768 := by
    constructor
    · rintro rfl; rfl
    · intro h
      exact BitVec.eq_of_toInt_eq (h.trans rfl)
  cases p
  · rfl
  · show (if v = 0x8000 then (0x7FFF : Half) else -v) = if v.toInt = -32768 then 32767 else -v
    exact if_congr least rfl rfl

theorem execCurrentSample_eq {p : PlanContents} {d : DueSample} {rest : List DueSample} {c : Fin 96}
    (metering : s.engine.metering = some ⟨p, d :: rest⟩) (target : d.target = some (.current c))
    (enabled : (circuitRecord p c).enabled = true) :
    exec .currentSample s = .next (sampleDone d (current p c d.scan d.value s)) := by
  show execCurrentSample s = _
  simp [execCurrentSample, nextSample_of_metering metering, handlingOf, target, enabled]

/-! ### Park service -/

/-- Setting the park queue and the misses of a circuit, as park service does. -/
def CircuitState.setPark (q : List Parked) (n : Word) (x : CircuitState) : CircuitState := { x with park := q, missed := n }

theorem floored_setPark (r : CircuitRecord) (o : Option Direction) (q : List Parked) (n : Word) (x : CircuitState) :
    (x.setPark q n).floored r o = (x.floored r o).setPark q n := by
  unfold CircuitState.floored
  split
  · split
    · rfl
    · rw [apply_ite (CircuitState.setPark q n)]
      rfl
  · rfl

theorem withPair_setPark (r : CircuitRecord) (gate holdover : Bool) (i v : Half) (q : List Parked) (n : Word)
    (x : CircuitState) :
    (x.setPark q n).withPair r gate holdover i v = (x.withPair r gate holdover i v).setPark q n := by
  unfold CircuitState.withPair CircuitState.accumulated
  split
  · split
    · exact floored_setPark r none q n { x with paired := x.paired + 1 }
    · next d _ =>
      dsimp only
      rw [← floored_setPark]
      cases d <;> rfl
  · rfl

/-- The pairs that the served samples form with a ring, in queue order (R88). -/
def pairsOf (ring : List RingSample) (l : List Parked) : List (Half × Half) :=
  l.filterMap fun q => (ring.find? fun y => y.scan == q.scan).map fun y => (q.value, y.value)

/-- The served samples whose scan the ring does not hold (R88). -/
def missesOf (ring : List RingSample) (l : List Parked) : List Parked :=
  l.filter fun q => !ring.any fun y => y.scan == q.scan

section
variable (r : CircuitRecord) (gate holdover : Bool) (ring : List RingSample) (u : Half)

/-- A circuit after several pairs. -/
def CircuitState.withPairs (pairs : List (Half × Half)) (x : CircuitState) : CircuitState :=
  pairs.foldl (fun y v => y.withPair r gate holdover v.1 v.2) x

theorem withPairs_setPark (pairs : List (Half × Half)) (q : List Parked) (n : Word) (x : CircuitState) :
    (x.setPark q n).withPairs r gate holdover pairs = (x.withPairs r gate holdover pairs).setPark q n := by
  unfold CircuitState.withPairs
  induction pairs generalizing x with
  | nil => rfl
  | cons v rest ih => rw [List.foldl_cons, List.foldl_cons, withPair_setPark, ih]

theorem headServed_pairs {h : Parked} {y : RingSample} (found : ringLookup ring h.scan = some y) (l : List Parked)
    (x : CircuitState) : x.headServed r gate holdover ring h l =
      (x.withPair r gate holdover h.value y.value).setPark l x.missed := by
  simp only [CircuitState.headServed, found]
  exact withPair_setPark r gate holdover h.value y.value l x.missed x

theorem headServed_misses {h : Parked} (absent : ringLookup ring h.scan = none) (l : List Parked) (x : CircuitState) :
    x.headServed r gate holdover ring h l = x.setPark l (x.missed + 1) := by
  simp only [CircuitState.headServed, absent, CircuitState.setPark]

theorem any_of_ringLookup {h : Parked} {y : RingSample} (found : ringLookup ring h.scan = some y) :
    (ring.any fun y => y.scan == h.scan) = true :=
  List.any_eq_true.mpr ⟨y, List.mem_of_find?_eq_some found, List.find?_some (p := fun y : RingSample => y.scan == h.scan) found⟩

theorem not_any_of_ringLookup {h : Parked} (absent : ringLookup ring h.scan = none) :
    (ring.any fun y => y.scan == h.scan) = false := by
  simpa using (ringLookup_eq_none_iff ring h.scan).mp absent

theorem setPark_self {l : List Parked} {x : CircuitState} (park : x.park = l) :
    x.setPark l (x.missed + BitVec.ofNat 32 0) = x := by
  have same : x.missed + BitVec.ofNat 32 0 = x.missed := word_add_zero _
  rw [same, ← park]
  rfl

/-- Park service: every sample up to the first newer one leaves the queue and pairs, or is missed (R88). -/
theorem served_eq {l : List Parked} {x : CircuitState} (park : x.park = l) :
    x.served r gate holdover ring u l =
      (x.withPairs r gate holdover (pairsOf ring (l.takeWhile fun q => !newer q.scan u))).setPark
        (l.dropWhile fun q => !newer q.scan u)
        (x.missed + BitVec.ofNat 32 (missesOf ring (l.takeWhile fun q => !newer q.scan u)).length) := by
  induction l generalizing x with
  | nil => exact (setPark_self park).symm
  | cons h rest ih =>
    unfold CircuitState.served
    split
    · next isNewer =>
      rw [List.takeWhile_cons_of_neg (by simp [isNewer]), List.dropWhile_cons_of_neg (by simp [isNewer])]
      exact (setPark_self park).symm
    · next due =>
      have due : (!newer h.scan u) = true := by simpa using due
      rw [ih (headServed_account r gate holdover ring park).2, List.takeWhile_cons_of_pos (p := fun q : Parked => !newer q.scan u) due,
        List.dropWhile_cons_of_pos (p := fun q : Parked => !newer q.scan u) due]
      generalize (rest.takeWhile fun q => !newer q.scan u) = taken
      cases lookup : ringLookup ring h.scan with
      | some y =>
        have pairs : pairsOf ring (h :: taken) = (h.value, y.value) :: pairsOf ring taken := by
          have found : (ring.find? fun y => y.scan == h.scan) = some y := lookup
          simp [pairsOf, found]
        have misses : missesOf ring (h :: taken) = missesOf ring taken := by
          simp [missesOf, any_of_ringLookup ring lookup]
        rw [headServed_pairs r gate holdover ring lookup, withPairs_setPark, pairs, misses]
        rfl
      | none =>
        have pairs : pairsOf ring (h :: taken) = pairsOf ring taken := by
          have absent : (ring.find? fun y => y.scan == h.scan) = none := lookup
          simp [pairsOf, absent]
        have misses : missesOf ring (h :: taken) = h :: missesOf ring taken := by
          simp [missesOf, not_any_of_ringLookup ring lookup]
        have one : BitVec.ofNat 32 1 = (1 : Word) := rfl
        have missed (n : Nat) : x.missed + 1 + BitVec.ofNat 32 n = x.missed + BitVec.ofNat 32 (n + 1) := by
          rw [BitVec.ofNat_add, one]
          ac_rfl
        rw [headServed_misses r gate holdover ring lookup, withPairs_setPark, pairs, misses, List.length_cons, ← missed]
        rfl

theorem withPairs_counters (pairs : List (Half × Half)) (x : CircuitState) :
    (x.withPairs r gate holdover pairs).paired = (if gate then x.paired + BitVec.ofNat 32 pairs.length else x.paired) ∧
      (x.withPairs r gate holdover pairs).unqualified =
        if gate then x.unqualified else x.unqualified + BitVec.ofNat 32 pairs.length := by
  induction pairs generalizing x with
  | nil => cases gate <;> simp [CircuitState.withPairs]
  | cons v rest ih =>
    have head : (x.withPairs r gate holdover (v :: rest)) =
        (x.withPair r gate holdover v.1 v.2).withPairs r gate holdover rest := rfl
    have succ (w : Word) (n : Nat) : w + 1 + BitVec.ofNat 32 n = w + BitVec.ofNat 32 (n + 1) := by
      rw [Nat.add_comm, BitVec.ofNat_add, ← BitVec.add_assoc]
      rfl
    have tallies := withPair_tallies r gate holdover v.1 v.2 x
    rw [head, (ih _).1, (ih _).2, List.length_cons]
    cases gate with
    | true =>
      simp only [if_true, CircuitState.tallies, Prod.mk.injEq] at tallies ⊢
      rw [tallies.2.1, tallies.2.2.2.1]
      exact ⟨succ _ _, rfl⟩
    | false =>
      simp only [Bool.false_eq_true, if_false, CircuitState.tallies, Prod.mk.injEq] at tallies ⊢
      rw [tallies.2.1, tallies.2.2.2.1]
      exact ⟨rfl, succ _ _⟩

end

theorem circ_foldl_formPair (p : PlanContents) (c : Fin 96) (pairs : List (Half × Half)) (present : s.circuits.length = 96) :
    ((pairs.foldl (fun t x => formPair p c x.1 x.2 t) s).circ c) =
      (s.circ c).withPairs (circuitRecord p c) (gateOpen (s.ref (circuitRecord p c).reference).census.state)
        (s.sync.state == .holdover) pairs := by
  induction pairs generalizing s with
  | nil => rfl
  | cons v rest ih =>
    have length : (formPair p c v.1 v.2 s).circuits.length = 96 :=
      (formPair_updates (i := .currentSample) rfl p c v.1 v.2 s).keeps
        (P := fun u => u.circuits.length = 96) (fun _ _ hu h => hu.length_circuits.trans h) present
    have refs (r : Fin 16) : (formPair p c v.1 v.2 s).ref r = s.ref r := by simp [State.ref]
    have sync : (formPair p c v.1 v.2 s).sync = s.sync := by simp
    rw [List.foldl_cons, ih length, refs, sync, circ_formPair _ _ _ _ _ present, if_pos rfl]
    rfl

/-- Park service of one circuit as a fold over the samples it serves. -/
theorem servePark_eq_foldl (p : PlanContents) (ring : List RingSample) (u : Half) (c : Fin 96) (l : List Parked)
    (present : s.circuits.length = 96) (park : (s.circ c).park = l) :
    servePark p ring u c l s = (l.takeWhile fun q => !newer q.scan u).foldl
      (fun t q => serveHead p ring c q (t.circ c).park.tail t) s := by
  induction l generalizing s with
  | nil => rfl
  | cons h rest ih =>
    obtain ⟨-, -, length⟩ := serveHead_keeps p ring c h rest s
    rw [servePark_cons]
    split
    · next isNewer => rw [List.takeWhile_cons_of_neg (by simp [isNewer])]; rfl
    · next due =>
      have left : ((serveHead p ring c h rest s).circ c).park = rest := by
        rw [circ_serveHead _ _ _ _ _ _ present, if_pos rfl]
        exact (headServed_account _ _ _ _ park).2
      rw [List.takeWhile_cons_of_pos (by simpa using due), List.foldl_cons, park, List.tail_cons,
        ih (length.trans present) left]

/-- The first clause of R86 to R88: a sample of an enabled circuit pairs, or is a duplicate, parked or missed. -/
theorem currentSample_cases {p : PlanContents} {d : DueSample} {rest : List DueSample} {c : Fin 96}
    (metering : s.engine.metering = some ⟨p, d :: rest⟩) (target : d.target = some (.current c))
    (enabled : (circuitRecord p c).enabled = true) (u : State) (hu : current p c d.scan d.value s = u) :
    exec .currentSample s = .next { u with engine := { u.engine with
      metering := some ⟨p, rest⟩, lastScan := if d.endsScan then d.scan else u.engine.lastScan } } := by
  subst hu
  rw [execCurrentSample_eq metering target enabled,
    sampleDone_eq (metering_of_claims (current_claims p c d.scan d.value s) metering)]

/-- Settles O22: the sample by its ring and its park queue; the service of one circuit by what it serves; the service of all
as the folds it is. -/
theorem currentSamplesArePairedParkedOrMissed : Obligations.CurrentSamplesArePairedParkedOrMissed := by
  refine ⟨?_, ?_, ?_⟩
  · intro p d rest c s metering target enabled present r ring park i handled
    have next := currentSample_cases metering target enabled
    have hi : applyPolarity r.polarity d.value = i := applyPolarity_eq _ _
    refine ⟨fun y hy hscan only => next _ ?_, fun absent => ⟨fun dup => next _ ?_, fun fresh =>
      ⟨fun newest => ⟨fun room => next _ ?_, fun full => next _ ?_⟩, fun n last old => next _ ?_⟩⟩⟩
    · obtain ⟨z, hz⟩ := Option.isSome_iff_exists.mp ((ringLookup_isSome_iff ring d.scan).mpr ⟨y, hy, hscan⟩)
      have same : z = y := only z (List.mem_of_find?_eq_some hz)
        (by simpa using List.find?_some (p := fun x : RingSample => x.scan == d.scan) hz)
      rw [← hi, ← same]
      simp only [current, show ringLookup (s.ref (circuitRecord p c).reference).ring d.scan = some z from hz]
      rfl
    all_goals
      have none : ringLookup (s.ref (circuitRecord p c).reference).ring d.scan = none :=
        (ringLookup_eq_none_iff ring d.scan).mpr absent
      simp only [current, none]
    · rw [if_pos (by simpa using dup)]
    all_goals
      have notParked : ¬ ((s.circ c).park.any fun x => x.scan == d.scan) = true := by simpa using fresh
      rw [if_neg notParked]
    · have may : mayPark (s.ref (circuitRecord p c).reference).ring d.scan = true := (isNewNewest_iff ring d.scan).mpr newest
      have notFull : ¬ Config.parkPlaces ≤ (s.circ c).park.length := Nat.not_le.mpr room
      rw [if_pos may, parkSample]
      rw [if_neg notFull]
      exact onCirc_congr (by rw [hi])
    · have may : mayPark (s.ref (circuitRecord p c).reference).ring d.scan = true := (isNewNewest_iff ring d.scan).mpr newest
      have isFull : Config.parkPlaces ≤ (s.circ c).park.length := full
      rw [if_pos may, parkSample]
      rw [if_pos isFull, countMiss, onCirc_onCirc _ _ _ _ present]
      exact onCirc_congr (by rw [hi])
    · have notNewest : ¬ mayPark (s.ref (circuitRecord p c).reference).ring d.scan = true := by
        simp [mayPark, isNewNewest, ringNewest, show (s.ref (circuitRecord p c).reference).ring.getLast? = some n from last,
          old]
      rw [if_neg notNewest]
      rfl
  · intro p r u s c present before after served
    have serviced := circ_parkService p r u present c
    refine ⟨fun other => serviced.trans (if_neg other), fun isServed => ?_, by simp, parkService_claims p r u s⟩
    intro ring taken pairs metered openGate
    have meteredEq : metered = before.withPairs (circuitRecord p c) (gateOpen (s.ref r).census.state)
        (s.sync.state == .holdover) pairs := by
      have := circ_foldl_formPair p c pairs present
      rwa [isServed.2] at this
    have afterEq : after = metered.setPark (before.park.dropWhile fun q => !newer q.scan u)
        (before.missed + BitVec.ofNat 32 (missesOf ring taken).length) := by
      rw [meteredEq]
      exact (serviced.trans (if_pos isServed)).trans (served_eq _ _ _ _ _ rfl)
    obtain ⟨paired, unqualified⟩ := withPairs_counters (circuitRecord p c) (gateOpen (s.ref r).census.state)
      (s.sync.state == .holdover) pairs before
    have pairedEq : after.paired = metered.paired := by rw [afterEq]; rfl
    have unqualifiedEq : after.unqualified = metered.unqualified := by rw [afterEq]; rfl
    refine ⟨afterEq, fun opens => ?_, fun shut => ?_⟩
    · have gate : gateOpen (s.ref r).census.state = true := (gateOpen_iff _).mpr opens
      rw [pairedEq, unqualifiedEq, meteredEq, paired, unqualified, if_pos gate, if_pos gate]
      exact ⟨rfl, rfl⟩
    · have gate : ¬ gateOpen (s.ref r).census.state = true := fun h => shut ((gateOpen_iff _).mp h)
      rw [pairedEq, unqualifiedEq, meteredEq, paired, unqualified, if_neg gate, if_neg gate]
      exact ⟨rfl, rfl⟩
  · intro p r u s present served one
    have oneEq (c : Fin 96) : (fun t q => serveHead p (s.ref r).ring c q (t.circ c).park.tail t) = one c := by
      funext t q
      have left : (t.onCirc c fun x => { x with park := (t.circ c).park.tail }) =
          t.onCirc c fun x => { x with park := x.park.tail } := onCirc_congr rfl
      unfold serveHead
      rw [left]
      rfl
    have fold (l : List (Fin 96)) (t : State) (length : t.circuits.length = 96) (refs : t.refs = s.refs) :
        l.foldl (fun t c => servePark p (t.ref r).ring u c (t.circ c).park t) t =
          l.foldl (fun t c => ((t.circ c).park.takeWhile fun q => !newer q.scan u).foldl (one c) t) t := by
      induction l generalizing t with
      | nil => rfl
      | cons c rest ih =>
        have ring : (t.ref r).ring = (s.ref r).ring := by rw [State.ref, State.ref, refs]
        have head : servePark p (t.ref r).ring u c (t.circ c).park t =
            ((t.circ c).park.takeWhile fun q => !newer q.scan u).foldl (one c) t := by
          rw [servePark_eq_foldl p _ u c _ length rfl, ring, oneEq]
        rw [List.foldl_cons, List.foldl_cons, ← head,
          ih _ ((length_servePark p _ u c _ t).trans length) ((by simp : (servePark p _ u c _ t).refs = t.refs).trans refs)]
    have same : servedCircuits p r = served := List.filter_congr fun c _ => by simp [Bool.beq_eq_decide_eq]
    rw [parkService, same]
    exact fold served s present rfl

end Sys2Proof.Machine
end


section
/-! PROOFS. The queue of commands, the passing of a millisecond, the resets and the start of the part (chapter 11). -/

namespace Sys2Proof.Machine

/-! ### The queue of commands and the millisecond -/

/-- Settles O1: it is how a step is defined on a queue that is not empty. -/
theorem stepRunsTheFrontCommand : Obligations.StepRunsTheFrontCommand := by
  intro c rest s waiting
  simp only [step, waiting]

theorem Update.keeps_pending {i : Instr} {s t : State} (h : Update i s t) : t.pending = s.pending := by
  cases h with
  | faults computed => simp [faultPlan]
  | commitsPart new => unfold commitPartState; split <;> simp
  | _ => simp [takenApart, composed, enterStarting, beginHead]

/-- No command touches the queue of waiting commands. -/
theorem exec_keeps_pending {i : Instr} {s t : State} (h : exec i s = .next t) : t.pending = s.pending := by
  obtain ⟨cause, rfl⟩ | updates := exec_cases h
  · rfl
  · exact updates.keeps (P := fun u => u.pending = s.pending) (fun _ _ h kept => h.keeps_pending.trans kept) rfl

theorem step_of_empty {s : State} (waiting : s.pending = []) : step s = .next (millisecond s) := by
  simp only [step, waiting]

theorem PassState.tick_of_not_waiting {p : PassState} (noWait : ∀ r, p ≠ .waiting r) : p.tick = p := by
  cases p with
  | waiting r => exact absurd rfl (noWait r)
  | stopped => rfl
  | running position check => rfl

/-- Settles O2: every command is a full reset or a chain of updates, none of which touches the waiting commands; and the
millisecond's clauses are its definition, the scrubber's wait and the pending reset case by case. -/
theorem commandsAnswerAndAMillisecondPasses : Obligations.CommandsAnswerAndAMillisecondPasses := by
  refine ⟨fun i s => ?_, fun s waiting => ⟨fun bypass => ?_, fun outside => ?_⟩⟩
  · obtain ⟨t, answer, -⟩ := exec_answers i s
    exact ⟨t, answer, exec_keeps_pending answer⟩
  · rw [step_of_empty waiting, millisecond, if_pos bypass]
    rfl
  · refine ⟨millisecond s, step_of_empty waiting, ?_⟩
    simp only [millisecond, if_neg outside]
    refine ⟨trivial, rfl, rfl, rfl, rfl, fun r wait => ?_, fun noWait => ?_, fun r reset => ?_, fun noReset => ?_, trivial,
      trivial, trivial, trivial, trivial⟩
    · simp only [wait, PassState.tick]
    · rw [PassState.tick_of_not_waiting noWait]
    · simp only [reset, Option.map_some]
    · simp only [noReset, Option.map_none]
      rw [← noReset]

/-! ### Resets (R181) -/

/-- Settles O3: each of the three is a full reset, and an expiry whose time has not come leaves the state. -/
theorem resetsLeaveTheFullResetValues : Obligations.ResetsLeaveTheFullResetValues := by
  intro s
  refine ⟨⟨_, rfl, fullReset_fullyReset .power s⟩, fun n timer => ⟨fun broken lasted => ?_, fun short => ?_⟩, fun stopped => ?_,
    fun left copyOf reset => ⟨fun done => ?_, fun early => ?_⟩⟩
  · refine ⟨fullReset .break_ s, ?_, fullReset_fullyReset .break_ s⟩
    simp [exec, execBreakTimerExpiry, occurs, broken, timer, reached, Config.breakTime, lasted]
  · simp [exec, execBreakTimerExpiry, occurs, timer, reached, Config.breakTime, Nat.not_le.mpr short]
  · simp [exec, execBreakTimerExpiry, occurs, stopped, reached]
  · refine ⟨fullReset .command s, ?_, fullReset_fullyReset .command s⟩
    simp [exec, execPartResetDeadline, occurs, deadlineReached, expires, reset, done]
  · simp [exec, execPartResetDeadline, occurs, deadlineReached, expires, reset, early]

theorem state_reset_eq : State.reset = fullReset .power State.reset := rfl

theorem fullReset_capacities (cause : ResetCause) (s : State) : Capacities (fullReset cause s) := by
  constructor <;>
    simp [fullReset, State.afterReset, Links.reset, Engine.reset, Session.reset, Builder.reset, Agent.reset, Events.reset,
      CircuitState.cleared, RefState.reset]

theorem fullReset_scansInOrder (cause : ResetCause) (s : State) : ScansInOrder (fullReset cause s) := by
  constructor <;>
    simp [fullReset, State.afterReset, CircuitState.cleared, RefState.reset, ScansOrdered, scansAscend]

theorem fullReset_energyWithinBounds (cause : ResetCause) (s : State) : EnergyWithinBounds (fullReset cause s) := by
  intro c d
  rw [circ_fullReset]
  cases d <;> simp [CircuitState.cleared, CircuitState.dir, DirState.cleared]

/-- Settles O60: the part right after reset is what a full reset with cause POWER leaves, which meets every invariant. -/
theorem resetMeetsTheInvariants : Obligations.ResetMeetsTheInvariants := by
  unfold Obligations.ResetMeetsTheInvariants
  rw [state_reset_eq]
  exact ⟨fullReset_capacities _ _, ⟨emptyContents_wf, emptyContents_wf⟩, fullReset_scansInOrder _ _, fullReset_timersFit _ _,
    fullReset_scrubberFits _ _, fullReset_queueFits _ _, by simp [ClosingsDistinct, fullReset, State.afterReset, Builder.reset],
    fullReset_unitsBalance _ _, fullReset_owedWithinCap _ _, fullReset_energyWithinBounds _ _, fullReset_fullyReset _ _⟩

/-! ### The ends of BYPASS and of the self-check (R182 to R187) -/

theorem bypassFor_iff (cause : ResetCause) (s : State) :
    bypassFor cause s = true ↔ s.part.state = .bypass ∧ s.part.cause = cause := by
  simp [bypassFor]

theorem occurs_of {b : Bool} (h : b = true) (s t : State) : occurs b s t = .next t := by rw [h]; rfl

theorem occurs_of_not {b : Bool} (h : ¬ b = true) (s t : State) : occurs b s t = .next s := by
  rw [Bool.not_eq_true] at h
  rw [h]
  rfl

theorem stateAfterCheck_eq (tap : BitVec 5) (passed : Bool) : stateAfterCheck tap passed =
    if tap.toNat = 0 ∨ tap.toNat = 31 then .passive else if passed then .idle else .defect := by
  have zero : tap = 0 ↔ tap.toNat = 0 := BitVec.toNat_inj.symm
  have ones : tap = 31 ↔ tap.toNat = 31 := BitVec.toNat_inj.symm
  simp only [stateAfterCheck, zero, ones]

/-- A part that leaves STARTING for a state other than PASSIVE is in IDLE or DEFECT, as the self-check passed. -/
theorem stateAfterCheck_cases (tap : BitVec 5) (passed : Bool) :
    stateAfterCheck tap passed = .passive ∨ stateAfterCheck tap passed = if passed then .idle else .defect := by
  unfold stateAfterCheck
  split
  · exact .inl rfl
  · exact .inr rfl

theorem startedValue_eq (cause : ResetCause) (passed : Bool) :
    startedValue cause (if passed then .idle else .defect) =
      (causeCode cause).setWidth 32 + (if passed then 0 else 256) := by
  cases passed <;> cases cause <;> rfl

/-- What a port becomes when the part leaves STARTING, by what its line then carries (R186). -/
def startedPort (q : Port) : Port :=
  match q.line with
  | .noSignal => q
  | .signal => { q with qualified := some 0 }
  | .break_ => { q with
      state := .break_, qualified := none, counters := { q.counters with breaks := q.counters.breaks + 1 } }

theorem startPort_links (p : PortId) (s : State) : (startPort p s).links =
    { Links.onPort p startedPort s.links with
      breakTimer := if p = .head ∧ s.links.head.line = .break_ then some 0 else s.links.breakTimer } := by
  cases p with
  | field =>
    cases line : s.links.field.line <;>
      simp [startPort, startedPort, enterBreak, State.port, Links.port, Links.onPort, State.onPort, line]
  | head =>
    cases line : s.links.head.line <;>
      simp [startPort, startedPort, enterBreak, State.port, Links.port, Links.onPort, State.onPort, line]

/-- The links after both ports have begun. -/
theorem startPorts_links (s : State) : (startPort .head (startPort .field s)).links =
    { s.links with
      field := startedPort s.links.field, head := startedPort s.links.head
      breakTimer := if s.links.head.line = .break_ then some 0 else s.links.breakTimer } := by
  rw [startPort_links, startPort_links]
  simp [Links.onPort]

/-- The first event of a part that has started. -/
theorem posted_started {p : PartController} {e : Events} (value : Word) (takes : takesIn p.state = true)
    (fresh : e.queue = []) :
    posted .started 0 value p e = { e with queue := [⟨.started, 0, 0, p.ms, value, false⟩] } := by
  simp [posted, takes, maskPasses, takePosting, fresh, Config.eventPlaces]

theorem posted_of_not_takes {k : EventKind} {subject : Half} {value : Word} {p : PartController} {e : Events}
    (refuses : takesIn p.state = false) : posted k subject value p e = e := by
  simp [posted, refuses]

theorem bypassEnds (straps : BitVec 5) (signal : Bool) (s : State) :
    (s.part.state = .bypass → s.part.cause = .power → exec (.supplyGood straps) s = .next (enterStarting straps s)) ∧
    (s.part.state = .bypass → s.part.cause = .break_ → exec (.bypassBreakRelease signal straps) s =
      .next (enterStarting straps (s.onPort .head fun q => { q with line := lineAfter signal }))) ∧
    (s.part.state = .bypass → s.part.cause = .command → s.part.bypassTimer = some 0 →
      exec (.commandBypassEnd straps) s = .next (enterStarting straps s)) :=
  ⟨fun bypass cause => occurs_of ((bypassFor_iff _ s).mpr ⟨bypass, cause⟩) _ _,
    fun bypass cause => occurs_of ((bypassFor_iff _ s).mpr ⟨bypass, cause⟩) _ _,
    fun bypass cause timer => occurs_of (by
      rw [Bool.and_eq_true, bypassFor_iff]
      exact ⟨⟨bypass, cause⟩, by simp [expires, timer]⟩) _ _⟩

/-- Settles O4: the ends of a BYPASS by their condition, and the end of the self-check block by block. -/
theorem bypassEndsAndThePartStarts : Obligations.BypassEndsAndThePartStarts := by
  refine ⟨fun straps signal s => ?_, fun passed s starting fresh => ?_⟩
  · obtain ⟨power, broken, command⟩ := bypassEnds straps signal s
    refine ⟨power, broken, command, fun other => occurs_of_not ?_ _ _, fun other => occurs_of_not ?_ _ _,
      fun other => occurs_of_not ?_ _ _⟩
    · rw [bypassFor_iff]
      tauto
    · rw [bypassFor_iff]
      tauto
    · rw [Bool.and_eq_true, bypassFor_iff, expires, beq_iff_eq]
      tauto
  · refine ⟨_, occurs_of (decide_eq_true starting) _ _, ?_, fun passive => ?_, fun other => ?_, fun p => ?_, ?_, ?_⟩
    · simp [stateAfterCheck_eq]
    · have refuses : takesIn (stateAfterCheck s.part.tap passed) = false := by
        rw [show stateAfterCheck s.part.tap passed = .passive by simpa using passive]
        rfl
      simp [post, posted_of_not_takes, refuses]
    · have outside : stateAfterCheck s.part.tap passed = if passed then .idle else .defect :=
        (stateAfterCheck_cases s.part.tap passed).resolve_left (by simpa using other)
      have takes : takesIn (if passed then PartState.idle else .defect) = true := by cases passed <;> rfl
      simp only [post, State.onEvents_events, startPort_keeps, State.onPlan_part, State.onPart_part, State.onPlan_events,
        State.onPart_events, outside, startedValue_eq]
      exact posted_started _ takes (by rw [fresh])
    · have began : (startPort .head (startPort .field ((s.onPart fun q =>
          { q with state := stateAfterCheck s.part.tap passed, selfCheckPassed := passed, relayDrive := true }).onPlan
            fun _ => .reset))).port p = startedPort (s.port p) := by
        cases p <;> simp [State.port, startPorts_links, Links.port]
      have port : ∀ t : State, (post .started 0 (startedValue s.part.cause (stateAfterCheck s.part.tap passed)) t).port p =
          t.port p := fun t => by simp [State.port]
      rw [port, began]
      refine ⟨fun line => ?_, fun line => ?_, fun line => ?_⟩ <;> simp only [startedPort, line]
    · rw [(post_keeps _ _ _ _).2.1, startPorts_links]
      rfl
    · simp only [post_keeps, startPort_keeps, State.onPlan_plan, State.onPlan_sync, State.onPlan_engine,
        State.onPlan_circuits, State.onPlan_refs, State.onPlan_builder, State.onPlan_session, State.onPlan_agent,
        State.onPlan_pending, State.onPart_sync, State.onPart_engine, State.onPart_circuits, State.onPart_refs,
        State.onPart_builder, State.onPart_session, State.onPart_agent, State.onPart_pending, and_true]
      rfl

end Sys2Proof.Machine
end


section
/-! PROOFS. Voltage samples and their rings (R65 to R67). -/

namespace Sys2Proof.Machine

section
variable {α : Type} {scanOf : α → Half} {x : α}

/-- A sample newer than the newest of a list joins its end. -/
theorem placeByScan_newest {l : List α} (newest : ∀ n, l.getLast? = some n → newer (scanOf x) (scanOf n) = true) :
    placeByScan scanOf x l = l ++ [x] := by
  unfold placeByScan
  cases reversed : l.reverse with
  | nil => simp [List.reverse_eq_nil_iff.mp reversed, placeNewestFirst]
  | cons y ys =>
    have last : l.getLast? = some y := by rw [← List.head?_reverse, reversed]; rfl
    rw [placeNewestFirst, if_pos (newest y last), List.reverse_cons, ← reversed, List.reverse_reverse]

theorem placeNewestFirst_before {o : α} (above : newer (scanOf x) (scanOf o) = true) (l : List α) :
    ∃ m, placeNewestFirst scanOf x (l ++ [o]) = m ++ [o] ∧ m.Perm (x :: l) := by
  induction l with
  | nil => exact ⟨[x], by simp [placeNewestFirst, above], .refl _⟩
  | cons y ys ih =>
    obtain ⟨m, placed, perm⟩ := ih
    rw [List.cons_append, placeNewestFirst]
    split
    · exact ⟨x :: y :: ys, rfl, .refl _⟩
    · exact ⟨y :: m, by rw [placed, List.cons_append], (perm.cons y).trans (.swap x y ys)⟩

/-- A sample newer than the oldest of a list leaves the oldest at its head. -/
theorem placeByScan_above {o : α} {l : List α} (above : newer (scanOf x) (scanOf o) = true) :
    ∃ m, placeByScan scanOf x (o :: l) = o :: m ∧ m.Perm (x :: l) := by
  obtain ⟨m, placed, perm⟩ := placeNewestFirst_before above l.reverse
  refine ⟨m.reverse, ?_, (List.reverse_perm m).trans (perm.trans ((List.reverse_perm l).cons x))⟩
  rw [placeByScan, List.reverse_cons, placed, List.reverse_append]
  rfl

end

/-- Of two distinct scans, one that is not older is newer. -/
theorem newer_of_not_older {a b : Half} (distinct : a ≠ b) (h : older a b = false) : newer a b = true := by
  by_contra stale
  rw [older_of_not_newer distinct (by simpa using stale)] at h
  exact absurd h (by simp)

theorem ringStore_newest {ring : List RingSample} {x : RingSample}
    (newest : ∀ n, ring.getLast? = some n → newer x.scan n.scan = true) : (ringStore ring x).getLast? = some x := by
  rw [ringStore_eq, placeByScan_newest newest]
  split
  · next full =>
    obtain ⟨o, rest, rfl⟩ := List.exists_cons_of_length_pos (by omega : 0 < ring.length)
    simp
  · simp

theorem isLate_iff (ring : List RingSample) (u : Half) :
    isLate ring u = true ↔ 32 ≤ ring.length ∧ ∀ o, ring.head? = some o → older u o.scan = true := by
  cases ring with
  | nil => simp [isLate]
  | cons o rest => simp [isLate]

theorem execVoltageSample_eq {p : PlanContents} {d : DueSample} {rest : List DueSample} {r : Fin 16} {s : State}
    (metering : s.engine.metering = some ⟨p, d :: rest⟩) (target : d.target = some (.voltage r))
    (enabled : (refRecord p r).enabled = true) :
    exec .voltageSample s = .next (sampleDone d (voltage p r ⟨d.scan, d.value⟩ s)) := by
  show execVoltageSample s = _
  simp [execVoltageSample, nextSample_of_metering metering, handlingOf, target, enabled]

/-- Settles O20: the sample by the branches of R66, and the ring by where the sample is placed in it. -/
theorem voltageSamplesAreStoredInOrderOrCounted : Obligations.VoltageSamplesAreStoredInOrderOrCounted := by
  refine ⟨?_, fun ring x ordered fresh => ⟨ringStore_ordered ordered fresh, fun room => ?_, fun o tail cons full kept => ?_,
    ringStore_newest⟩⟩
  · intro p d rest r s metering target enabled ring x newest stored handled
    have handledEq {t : State} (same : voltage p r ⟨d.scan, d.value⟩ s = t) : exec .voltageSample s = handled t := by
      rw [execVoltageSample_eq metering target enabled,
        sampleDone_eq (metering_of_claims (voltage_claims p r ⟨d.scan, d.value⟩ s) metering), same]
    refine ⟨fun ⟨y, held, same⟩ => handledEq ?_, fun absent => ?_⟩
    · have found : (ringLookup ring d.scan).isSome = true := (ringLookup_isSome_iff ring d.scan).mpr ⟨y, held, same⟩
      rw [voltage]
      exact if_pos found
    · have notFound : ¬ (ringLookup ring d.scan).isSome = true := by
        rw [(ringLookup_eq_none_iff ring d.scan).mpr absent]
        simp
      refine ⟨fun full late => handledEq ?_, fun kept => ?_⟩
      · rw [voltage]
        exact (if_neg notFound).trans (if_pos ((isLate_iff ring d.scan).mpr ⟨full, late⟩))
      · have notLate : ¬ isLate ring d.scan = true := by
          rw [isLate_iff]
          rintro ⟨full, late⟩
          obtain room | ⟨o, head, above⟩ := kept
          · omega
          · rw [late o head] at above
            cases above
        have isStored : voltage p r ⟨d.scan, d.value⟩ s = parkService p r d.scan
            (if isNewNewest ring d.scan = true then censusSees p r ring.getLast? x stored else stored) :=
          (if_neg notFound).trans (if_neg notLate)
        refine ⟨fun isNew => handledEq ?_, fun notNew => handledEq ?_⟩
        · rw [isStored, if_pos ((isNewNewest_iff ring d.scan).mpr isNew)]
        · rw [isStored, if_neg ((isNewNewest_iff ring d.scan).not.mpr notNew)]
  · rw [ringStore_eq, if_neg (by omega)]
    exact placeByScan_perm ring
  · subst cons
    obtain ⟨m, placed, perm⟩ := placeByScan_above (scanOf := RingSample.scan) (l := tail)
      (newer_of_not_older (fun same => fresh o List.mem_cons_self same.symm) kept)
    rw [ringStore_eq, if_pos (by omega), placed]
    exact perm

end Sys2Proof.Machine
end


section
/-! PROOFS. Fields of octets; SYNC frames and the sync timer (2.2); the acceptance of SAMPLE frames (2.3). -/

namespace Sys2Proof.Machine

/-! ### Fields (chapter 12) -/

theorem drop_eq_getD_cons {l : List Byte} {i : Nat} (inside : i < l.length) : l.drop i = l.getD i 0 :: l.drop (i + 1) := by
  rw [List.drop_eq_getElem_cons inside, List.getD_eq_getElem _ _ inside]

theorem fieldAt_two {l : List Byte} {i : Nat} (inside : i + 1 < l.length) :
    fieldAt l i 2 = (l.getD i 0).toNat * 256 + (l.getD (i + 1) 0).toNat := by
  rw [fieldAt, drop_eq_getD_cons (by omega), drop_eq_getD_cons inside]
  simp [ofBe]

theorem toNat_ofNat_two_octets (a b : Byte) : (BitVec.ofNat 16 (a.toNat * 256 + b.toNat)).toNat = a.toNat * 256 + b.toNat := by
  have ha := a.isLt
  have hb := b.isLt
  rw [BitVec.toNat_ofNat]
  omega

/-! ### The sync monitor (R21 to R24) -/

/-- The sync monitor after a valid SYNC frame (R22). -/
def tookSync (epoch : Byte) (scan : Half) (interval : Nat) (y : Sync) : Sync :=
  { y with state := .locked, epoch := epoch, scan := scan, interval := some interval, timer := some (3 * interval),
           taken := y.taken + 1 }

/-- The state after the epoch check of R24 found another epoch. -/
def epochMoved (epoch : Byte) (s : State) : State :=
  { post .epochChanged (epoch.setWidth 16) (s.sync.epoch.setWidth 32) s with
    engine := { s.engine with claims := s.engine.claims ++ [.epochFlush] } }

theorem epochCheck_of_moved {epoch : Byte} {s : State} (synced : s.sync.state ≠ .none) (other : epoch ≠ s.sync.epoch) :
    epochCheck epoch s = epochMoved epoch s := by
  rw [epochCheck, if_pos ⟨synced, other⟩]
  rfl

theorem epochCheck_of_same {epoch : Byte} {s : State} (same : s.sync.state = .none ∨ epoch = s.sync.epoch) :
    epochCheck epoch s = s := by
  rw [epochCheck, if_neg]
  rintro ⟨synced, other⟩
  exact same.elim synced other

theorem takeSync_of_locked {epoch : Byte} {scan : Half} {interval : Nat} {s : State} (locked : s.sync.state = .locked) :
    takeSync epoch scan interval s = (epochCheck epoch s).onSync (tookSync epoch scan interval) := by
  rw [takeSync, if_pos locked]
  rfl

theorem takeSync_of_not_locked {epoch : Byte} {scan : Half} {interval : Nat} {s : State} (entering : s.sync.state ≠ .locked) :
    takeSync epoch scan interval s =
      post .syncLocked 0 (epoch.setWidth 32) ((epochCheck epoch s).onSync (tookSync epoch scan interval)) := by
  rw [takeSync, if_neg entering]
  rfl

theorem takeSync_timer (epoch : Byte) (scan : Half) (interval : Nat) (s : State) :
    (takeSync epoch scan interval s).sync.timer = some (3 * interval) := by
  by_cases locked : s.sync.state = .locked
  · rw [takeSync_of_locked locked]
    rfl
  · rw [takeSync_of_not_locked locked, (post_keeps _ _ _ _).2.2.1]
    rfl

/-- The interval field of a SYNC body (R193). -/
def syncInterval (body : List Byte) : Nat := (body.getD 3 0).toNat * 256 + (body.getD 4 0).toNat

theorem validSync_iff (body : List Byte) :
    validSync body = true ↔ body.length = 5 ∧ 100 ≤ syncInterval body ∧ syncInterval body ≤ 5000 := by
  by_cases whole : body.length = 5
  · simp [validSync, whole, fieldAt_two (show 3 + 1 < body.length by omega), syncInterval]
  · simp [validSync, whole]

theorem syncFrame_of_valid {body : List Byte} {s : State} (whole : body.length = 5) (low : 100 ≤ syncInterval body)
    (high : syncInterval body ≤ 5000) : syncFrame body s = takeSync (body.getD 0 0)
      (BitVec.ofNat 16 ((body.getD 1 0).toNat * 256 + (body.getD 2 0).toNat)) (syncInterval body) s := by
  rw [syncFrame, if_pos ((validSync_iff body).mpr ⟨whole, low, high⟩), fieldAt_two (by omega), fieldAt_two (by omega)]
  rfl

/-- Settles O14: a SYNC frame by its validity, the sync state and the epoch; the expiry by the timer and the sync state. -/
theorem syncFramesAndTheSyncTimer : Obligations.SyncFramesAndTheSyncTimer := by
  refine ⟨fun body s => ?_, fun body s whole low high => ?_, fun s running => ?_, fun interval s expired => ⟨?_, ?_⟩⟩
  · intro interval epoch scan taken changed
    refine ⟨fun invalid => ?_, fun whole low high => ?_⟩
    · rw [syncFrame, if_neg]
      · rfl
      · rw [validSync_iff]
        rintro ⟨whole, low, high⟩
        exact invalid.elim (· whole) fun out => out.elim (Nat.not_lt.mpr low) (Nat.not_lt.mpr high)
    · rw [syncFrame_of_valid whole low high]
      refine ⟨fun unsynced => ?_, fun locked same => ?_, fun locked other => ?_, fun lost same => ?_, fun lost other => ?_⟩
      · rw [takeSync_of_not_locked (by simp [unsynced]), epochCheck_of_same (.inl unsynced)]
        rfl
      · rw [takeSync_of_locked locked, epochCheck_of_same (.inr same)]
        rfl
      · rw [takeSync_of_locked locked, epochCheck_of_moved (by simp [locked]) other]
        rfl
      · rw [takeSync_of_not_locked (by rintro locked; simp [locked] at lost), epochCheck_of_same (.inr same)]
        rfl
      · rw [takeSync_of_not_locked (by rintro locked; simp [locked] at lost),
          epochCheck_of_moved (by rintro unsynced; simp [unsynced] at lost) other]
        rfl
  · have low : 100 ≤ syncInterval body := low
    refine occurs_of_not ?_ _ _
    rw [syncFrame_of_valid whole low high, expires, takeSync_timer, beq_iff_eq, Option.some_inj]
    omega
  · exact occurs_of_not (by simpa [expires] using running) _ _
  · intro locked intervalEq
    rw [show exec .syncTimerExpiry s = .next (syncExpiry s) from occurs_of (by simp [expires, expired]) _ _]
    simp only [syncExpiry, locked, State.onSync, intervalEq, Option.map_some]
  · intro holdover
    rw [show exec .syncTimerExpiry s = .next (syncExpiry s) from occurs_of (by simp [expires, expired]) _ _]
    simp only [syncExpiry, holdover, State.onSync]

/-! ### Acceptance (R27, R28) -/

/-- A body that is not malformed is long enough for its values (R26). -/
theorem length_of_wellFormed {node : Byte} {body : List Byte} (ok : malformedSample node body = false) :
    body.length = 5 + 2 * (octetAt body 4).toNat * (octetAt body 3).toNat := by
  by_contra short
  rw [← Bool.not_eq_true] at ok
  exact ok (by simp [malformedSample, short])

theorem sampleFrameOf_first {node : Byte} {body : List Byte} (ok : malformedSample node body = false) :
    (sampleFrameOf node body).first.toNat = (body.getD 1 0).toNat * 256 + (body.getD 2 0).toNat := by
  have long := length_of_wellFormed ok
  rw [show (sampleFrameOf node body).first = BitVec.ofNat 16 (fieldAt body 1 2) from rfl, fieldAt_two (by omega),
    toNat_ofNat_two_octets]

theorem sampleFrameOf_values {node : Byte} {body : List Byte} (ok : malformedSample node body = false) (i : Nat)
    (inside : i < (sampleFrameOf node body).values.length) : ((sampleFrameOf node body).values.getD i 0).toNat =
      (body.getD (5 + 2 * i) 0).toNat * 256 + (body.getD (6 + 2 * i) 0).toNat := by
  have long := length_of_wellFormed ok
  have count : i < (octetAt body 4).toNat * (octetAt body 3).toNat := by simpa [sampleFrameOf] using inside
  rw [List.getD_eq_getElem _ _ inside]
  simp only [sampleFrameOf, List.getElem_map, List.getElem_range]
  rw [fieldAt_two (by rw [Nat.mul_assoc] at long; omega), toNat_ofNat_two_octets,
    show 5 + 2 * i + 1 = 6 + 2 * i by omega]

/-- Settles O16: the four conditions as the chain they are, then the queue by its room. -/
theorem sampleFramesAreAcceptedInOrder : Obligations.SampleFramesAreAcceptedInOrder := by
  intro node body s k counted
  refine ⟨fun outside => ?_, fun metering malformed => ?_, fun metering ok => ⟨fun unsynced => ?_, fun synced =>
    ⟨fun stale => ?_, fun current => ⟨fun room => ⟨sampleFrameOf node body, ?_, rfl, rfl, sampleFrameOf_first ok, rfl, rfl,
      by simp [sampleFrameOf], sampleFrameOf_values ok⟩, fun full => ?_⟩⟩⟩⟩
  · rw [acceptSample, if_pos outside]
    rfl
  · rw [acceptSample, if_neg (not_not.mpr metering), if_pos malformed]
    rfl
  all_goals
    rw [acceptSample, if_neg (not_not.mpr metering), if_neg (by simp [ok])]
  · rw [if_pos (by obtain none | lost := unsynced <;> simp [*])]
    rfl
  all_goals
    rw [if_neg (by obtain locked | holdover := synced <;> simp [*])]
  · rw [if_pos (show (sampleFrameOf node body).epoch ≠ s.sync.epoch from stale)]
    rfl
  all_goals
    rw [if_neg (show ¬ (sampleFrameOf node body).epoch ≠ s.sync.epoch from not_not.mpr current), admitSample]
  · rw [if_pos (show s.engine.queue.length < Config.meteringPlaces from room)]
    rfl
  · rw [if_neg (show ¬ s.engine.queue.length < Config.meteringPlaces from Nat.not_lt.mpr full)]
    rfl

end Sys2Proof.Machine
end


section
/-! PROOFS. A frame's samples in their two passes, its beginning and end, and nothing out of turn (2.4, 2.5). -/

namespace Sys2Proof.Machine

/-! ### The order of a frame's samples (R32, R33) -/

theorem entryKey_eq_iff (e : StreamEntry) (node : Byte) {channel : Nat} (small : channel < 8) :
    (entryKey e == node.toNat * 8 + channel) = true ↔ e.node.val = node.toNat ∧ e.channel.val = channel := by
  have := e.channel.isLt
  rw [beq_iff_eq, entryKey, streamKey]
  omega

/-- What a due sample brings: its scan, its value and its target. -/
def DueSample.brings (d : DueSample) : Half × Half × Option Target := (d.scan, d.value, d.target)

theorem markLast_brings (l : List DueSample) : (markLast l).map DueSample.brings = l.map DueSample.brings := by
  induction l with
  | nil => rfl
  | cons d rest ih =>
    cases rest with
    | nil => rfl
    | cons e rest =>
      rw [markLast, List.map_cons, ih]
      rfl

/-- The last sample of a scan alone ends it. -/
theorem markLast_ends {l : List DueSample} (none : ∀ d ∈ l, d.endsScan = false) (some : l ≠ []) :
    (markLast l).map DueSample.endsScan = List.replicate (l.length - 1) false ++ [true] := by
  induction l with
  | nil => exact absurd rfl some
  | cons d rest ih =>
    cases rest with
    | nil => rfl
    | cons e rest =>
      rw [markLast, List.map_cons, ih (fun x hx => none x (List.mem_cons_of_mem d hx)) (by simp),
        none d List.mem_cons_self]
      rfl

/-- The sample of channel n in scan j of a frame (R32). -/
def sampleAt (p : PlanContents) (f : SampleFrame) (j n : Nat) : DueSample :=
  ⟨f.first + BitVec.ofNat 16 j, f.values.getD (j * f.channels + n) 0, targetFor p f.node n, false⟩

/-- The channel's stream has the role CURRENT. -/
def inSecondPass (p : PlanContents) (f : SampleFrame) (j n : Nat) : Bool := secondPass (sampleAt p f j n)

/-- The channels of a frame in the order of the two passes (R32). -/
def passOrder (p : PlanContents) (f : SampleFrame) (j : Nat) : List Nat :=
  (List.range f.channels).filter (fun n => !inSecondPass p f j n) ++ (List.range f.channels).filter (inSecondPass p f j)

theorem scanSamples_eq (p : PlanContents) (f : SampleFrame) (j : Nat) :
    scanSamples p f j = markLast ((passOrder p f j).map (sampleAt p f j)) := by
  rw [scanSamples, passOrder, List.map_append]
  simp only [List.filter_map]
  rfl

theorem length_passOrder (p : PlanContents) (f : SampleFrame) (j : Nat) : (passOrder p f j).length = f.channels := by
  have split := List.length_eq_length_filter_add (l := List.range f.channels) (inSecondPass p f j)
  rw [List.length_range] at split
  rw [passOrder, List.length_append]
  omega

/-- Settles O17: the lookup by its key; the passes by the order of the channels, which the marking of the last one keeps. -/
theorem frameSamplesComeInTwoPasses : Obligations.FrameSamplesComeInTwoPasses := by
  refine ⟨fun p node channel small => ?_, fun p f => ⟨rfl, fun j some => ?_⟩⟩
  · intro feeds
    have key (e : StreamEntry) : (entryKey e == node.toNat * 8 + channel) = true ↔ feeds e := entryKey_eq_iff e node small
    refine ⟨fun before e after streams he others => ?_, fun none => ?_⟩
    · have found : lookupStream p.streams (node.toNat * 8 + channel) = some e := by
        rw [lookupStream, List.find?_eq_some_iff_append]
        exact ⟨(key e).mpr he, before, after, streams, fun x hx => by simpa using (key x).not.mpr (others x hx)⟩
      rw [targetFor, found]
      rfl
    · have absent : lookupStream p.streams (node.toNat * 8 + channel) = .none := by
        rw [lookupStream, List.find?_eq_none]
        exact fun e he => (key e).not.mpr (none e he)
      rw [targetFor, absent]
      rfl
  · intro isCurrent order
    have pass (n : Nat) : inSecondPass p f j n = isCurrent n := by
      show secondPass ⟨_, _, targetFor p f.node n, _⟩ = match targetFor p f.node n with
        | .some (.current _) => true
        | _ => false
      cases targetFor p f.node n with
      | none => rfl
      | some t => cases t <;> rfl
    have orderEq : passOrder p f j = order := by
      simp only [passOrder, funext pass, order]
    constructor
    · rw [scanSamples_eq, orderEq]
      exact (markLast_brings _).trans (List.map_map ..)
    · rw [scanSamples_eq, markLast_ends, List.length_map, length_passOrder]
      · simp [sampleAt]
      · rw [← List.length_pos_iff, List.length_map, length_passOrder]
        exact some

/-! ### Frames and samples in turn (R30 to R35) -/

variable {s : State}

theorem execFrameBegin_of {f : SampleFrame} {rest : List SampleFrame} (boundary : s.engine.metering = none)
    (free : s.engine.claims = []) (queue : s.engine.queue = f :: rest) :
    exec .frameBegin s = .next (beginFrame f rest s) := by
  show execFrameBegin s = _
  simp [execFrameBegin, queue, atBoundary, boundary, free, occurs]

theorem counts_unmapped {p : PlanContents} {d : DueSample} {rest : List DueSample}
    (metering : s.engine.metering = some ⟨p, d :: rest⟩) (unmapped : d.target = none) :
    exec .unmappedSample s = .next { s with engine := { s.engine with
      metering := some ⟨p, rest⟩, lastScan := if d.endsScan then d.scan else s.engine.lastScan
      counters := { s.engine.counters with unmapped := s.engine.counters.unmapped + 1 } } } := by
  have counted : (s.onScanCounters fun k => { k with unmapped := k.unmapped + 1 }).engine.metering = some ⟨p, d :: rest⟩ :=
    metering
  show execUnmappedSample s = _
  simp only [execUnmappedSample, nextSample_of_metering metering, unmapped, handlingOf, sampleDone_eq counted]
  rfl

theorem skips_of {p : PlanContents} {d : DueSample} {rest : List DueSample}
    (metering : s.engine.metering = some ⟨p, d :: rest⟩) (skipped : handlingOf p d.target = .skipped) :
    exec .unmappedSample s = .next { s with engine := { s.engine with
      metering := some ⟨p, rest⟩, lastScan := if d.endsScan then d.scan else s.engine.lastScan } } := by
  show execUnmappedSample s = _
  simp only [execUnmappedSample, nextSample_of_metering metering, skipped, sampleDone_eq metering]

/-- The next sample is handled by its kind (R33). -/
theorem handlingOf_voltage_iff (p : PlanContents) (t : Option Target) (r : Fin 16) :
    handlingOf p t = .voltage r ↔ t = some (.voltage r) ∧ (refRecord p r).enabled = true := by
  cases t with
  | none => simp [handlingOf]
  | some t =>
    cases t with
    | voltage q =>
      simp only [handlingOf]
      split
      · next on =>
        simp only [Handling.voltage.injEq, Option.some.injEq, Target.voltage.injEq]
        exact ⟨fun same => ⟨same, same ▸ on⟩, fun ⟨same, _⟩ => same⟩
      · next off =>
        simp only [reduceCtorEq, Option.some.injEq, Target.voltage.injEq, false_iff]
        rintro ⟨rfl, on⟩
        exact off on
    | current c => simp only [handlingOf]; split <;> simp
    | ignore => simp [handlingOf]

theorem handlingOf_current_iff (p : PlanContents) (t : Option Target) (c : Fin 96) :
    handlingOf p t = .current c ↔ t = some (.current c) ∧ (circuitRecord p c).enabled = true := by
  cases t with
  | none => simp [handlingOf]
  | some t =>
    cases t with
    | current q =>
      simp only [handlingOf]
      split
      · next on =>
        simp only [Handling.current.injEq, Option.some.injEq, Target.current.injEq]
        exact ⟨fun same => ⟨same, same ▸ on⟩, fun ⟨same, _⟩ => same⟩
      · next off =>
        simp only [reduceCtorEq, Option.some.injEq, Target.current.injEq, false_iff]
        rintro ⟨rfl, on⟩
        exact off on
    | voltage r => simp only [handlingOf]; split <;> simp
    | ignore => simp [handlingOf]

/-- A voltage sample's row handles a voltage sample of an enabled reference alone. -/
theorem execVoltageSample_stays
    (other : ¬ ∃ p d r, NextSample p d s ∧ d.target = some (.voltage r) ∧ (refRecord p r).enabled = true) :
    exec .voltageSample s = .next s := by
  show execVoltageSample s = _
  rw [execVoltageSample]
  split
  · rfl
  · next p d next =>
    split
    · next r handled => exact absurd ⟨p, d, r, next, (handlingOf_voltage_iff p d.target r).mp handled⟩ other
    all_goals rfl

/-- A current sample's row handles a current sample of an enabled circuit alone. -/
theorem execCurrentSample_stays
    (other : ¬ ∃ p d c, NextSample p d s ∧ d.target = some (.current c) ∧ (circuitRecord p c).enabled = true) :
    exec .currentSample s = .next s := by
  show execCurrentSample s = _
  rw [execCurrentSample]
  split
  · rfl
  · next p d next =>
    split
    · next c handled => exact absurd ⟨p, d, c, next, (handlingOf_current_iff p d.target c).mp handled⟩ other
    all_goals rfl

theorem execUnmappedSample_of_handled {p : PlanContents} {d : DueSample} (next : NextSample p d s)
    (handled : (∃ r, handlingOf p d.target = .voltage r) ∨ ∃ c, handlingOf p d.target = .current c) :
    exec .unmappedSample s = .next s := by
  show execUnmappedSample s = _
  have next : nextSample s = some (p, d) := next
  obtain ⟨r, handled⟩ | ⟨c, handled⟩ := handled <;> simp only [execUnmappedSample, next, handled]

theorem nextClaim_iff (k : Claim) : nextClaim s = some k ↔ s.engine.metering = none ∧ s.engine.claims.head? = some k := by
  unfold nextClaim atBoundary
  split
  · next boundary => simp [Option.isNone_iff_eq_none.mp boundary]
  · next busy => simp [Option.isNone_iff_eq_none.not.mp busy]

/-- No claim is taken out of turn (R35). -/
theorem claims_stay :
    ((∀ check, nextClaim s ≠ some (.commitBoundary check)) → exec .commitBoundary s = .next s) ∧
    (nextClaim s ≠ some .epochFlush → exec .epochFlush s = .next s) ∧
    (nextClaim s ≠ some .builderTake → exec .builderTake s = .next s) ∧
    ((∀ us, nextClaim s ≠ some (.ackRelease us)) → exec .ackRelease s = .next s) ∧
    ((∀ us, nextClaim s ≠ some (.sessionRestore us)) → exec .sessionRestore s = .next s) ∧
    ((∀ c, nextClaim s ≠ some (.circuitRead c)) → exec .circuitReadClaim s = .next s) ∧
    ((∀ r, nextClaim s ≠ some (.referenceRead r)) → exec .referenceReadClaim s = .next s) ∧
    (nextClaim s ≠ some .meteringClear → exec .meteringClearClaim s = .next s) := by
  simp only [exec, execCommitBoundary, execEpochFlush, execBuilderTake, execAckRelease, execSessionRestore,
    execCircuitReadClaim, execReferenceReadClaim, execMeteringClearClaim]
  generalize nextClaim s = next
  refine ⟨fun other => ?_, fun other => ?_, fun other => ?_, fun other => ?_, fun other => ?_, fun other => ?_,
    fun other => ?_, fun other => ?_⟩ <;> split <;> simp_all

/-- Settles O18: the beginning by the frame's epoch, the samples by the table of R33, and what stays by its own condition. -/
theorem framesBeginSkipSamplesAndEnd : Obligations.FramesBeginSkipSamplesAndEnd := by
  refine ⟨fun s => ⟨fun f rest boundary free queue => ⟨fun stale => ?_, fun current => ?_⟩, fun p finished => ?_⟩,
    fun p d rest s metering => ?_, fun s => ?_, fun s => ?_⟩
  · rw [execFrameBegin_of boundary free queue, beginFrame, if_pos stale]
    rfl
  · rw [execFrameBegin_of boundary free queue, beginFrame, if_neg (not_not.mpr current)]
    rfl
  · show execFrameMetered s = _
    simp only [execFrameMetered, finished]
    rfl
  · intro handled
    refine ⟨fun unmapped => ?_, fun ignored => ?_, fun r voltage off => ?_, fun c current off => ?_⟩
    · exact counts_unmapped metering unmapped
    · exact skips_of metering (by simp [ignored, handlingOf])
    · exact skips_of metering (by simp [voltage, handlingOf, off])
    · exact skips_of metering (by simp [current, handlingOf, off])
  · intro voltage current
    refine ⟨fun busy => ?_, fun unfinished => ?_, fun other => ?_, execVoltageSample_stays, execCurrentSample_stays⟩
    · show execFrameBegin s = _
      rw [execFrameBegin]
      split
      · rfl
      · next f rest queue =>
        refine occurs_of_not ?_ _ _
        simp only [atBoundary, Bool.and_eq_true, Option.isNone_iff_eq_none, List.isEmpty_iff]
        rintro ⟨boundary, free⟩
        obtain metering | claims | empty := busy
        · exact metering boundary
        · exact claims free
        · rw [empty] at queue
          cases queue
    · show execFrameMetered s = _
      rw [execFrameMetered]
      split
      · rfl
      · next m metering =>
        refine occurs_of_not ?_ _ _
        rw [List.isEmpty_iff]
        intro finished
        exact unfinished m.plan (by rw [metering, ← finished])
    · obtain none | ⟨p, d, r, next, kind⟩ | ⟨p, d, c, next, kind⟩ := other
      · show execUnmappedSample s = _
        rw [execUnmappedSample]
        split
        · rfl
        · next p d next => exact absurd next (none p d)
      · exact execUnmappedSample_of_handled next (.inl ⟨r, (handlingOf_voltage_iff p d.target r).mpr kind⟩)
      · exact execUnmappedSample_of_handled next (.inr ⟨c, (handlingOf_current_iff p d.target c).mpr kind⟩)
  · simp only [← nextClaim_iff]
    exact claims_stay

end Sys2Proof.Machine
end


section
/-! PROOFS. Epoch flush, triggers, the timers of scrubber and reporting, and how a command completes. -/

namespace Sys2Proof.Machine

variable {s : State}

/-- Settles O36: the claim at a frame boundary, and the restart of a census written out. -/
theorem epochFlushEmptiesRingsAndParks : Obligations.EpochFlushEmptiesRingsAndParks := by
  intro rest s claims
  refine ⟨fun busy => ?_, fun boundary => ?_⟩
  · exact claims_stay.2.1 fun taken => busy ((nextClaim_iff _).mp taken).1
  · show execEpochFlush s = _
    simp only [execEpochFlush, nextClaim_of_boundary boundary claims, dropClaim_of_claims claims]
    rfl

/-! ### Triggers and units (R95, R124, R125) -/

theorem trigger_refused (g : Triggers) (refused : ¬ builderAccepts s = true) :
    trigger g s = { s with builder := { s.builder with dropped := s.builder.dropped + 1 } } := by
  rw [trigger, if_neg refused]
  rfl

theorem trigger_placed (g : Triggers) (accepts : builderAccepts s = true) (idle : s.builder.waiting = none) :
    trigger g s = { s with
      builder := { s.builder with waiting := some g }
      engine := { s.engine with claims := s.engine.claims ++ [.builderTake] } } := by
  simp only [trigger, if_pos accepts, idle]
  rfl

theorem trigger_joined (g : Triggers) {w : Triggers} (accepts : builderAccepts s = true) (waits : s.builder.waiting = some w) :
    trigger g s = { s with builder := { s.builder with waiting := some (w.join g) } } := by
  simp only [trigger, if_pos accepts, waits]
  rfl

/-- The running state of a direction after a unit is generated (R95). -/
def DirState.generated (r : CircuitRecord) (sync : SyncState) (x : DirState) : DirState :=
  { x with pending := x.pending + 1, test := x.test || decide (1 < r.acceleration.toNat),
           holdover := x.holdover || decide (sync = .holdover) }

theorem generateUnit_eq (r : CircuitRecord) (c : Fin 96) (d : Direction) (present : s.circuits.length = 96) :
    generateUnit r c d s = if s.builder.urgent ≤ ((s.circ c).dir d).pending + 1 then
      trigger ⟨false, false, true⟩ (s.onDir c d (DirState.generated r s.sync.state))
    else s.onDir c d (DirState.generated r s.sync.state) := by
  have holdover : (s.sync.state == .holdover) = decide (s.sync.state = .holdover) := rfl
  have pending : (((s.onDir c d (DirState.generated r s.sync.state)).circ c).dir d).pending =
      ((s.circ c).dir d).pending + 1 := by
    rw [State.dir_onDir c c d d _ s present, if_pos ⟨rfl, rfl⟩]
    rfl
  rw [← pending]
  unfold generateUnit
  simp only [holdover]
  rfl

/-- Settles O37: a trigger by the session and the waiting run, the interval timer by its remaining time, a unit by the urgent
level. -/
theorem triggersJoinPlaceOrDrop : Obligations.TriggersJoinPlaceOrDrop := by
  refine ⟨fun g s => ⟨fun refused => ?_, fun live room => ?_, fun running => ?_, fun expired => ?_⟩,
    fun r c d s present => ⟨fun urgent => ?_, fun calm => ?_⟩⟩
  · refine trigger_refused g ?_
    rw [builderAccepts_iff]
    rintro ⟨live, room⟩
    exact refused.elim live (Nat.not_le.mpr room)
  · have accepts := (builderAccepts_iff s).mpr ⟨live, room⟩
    exact ⟨trigger_placed g accepts, fun w => trigger_joined g accepts⟩
  · exact occurs_of_not (by simpa [expires] using running) _ _
  · exact occurs_of (by simp [expires, expired]) _ _
  · rw [generateUnit_eq r c d present, if_pos urgent]
    rfl
  · rw [generateUnit_eq r c d present, if_neg (Nat.not_le.mpr calm)]
    rfl

/-! ### The retransmit timer (R146 to R148) -/

theorem retransmits_iff :
    (expires s.session.timer && decide (s.session.state = .open_)) = true ↔
      s.session.timer = some 0 ∧ s.session.state = .open_ := by
  rw [Bool.and_eq_true, expires, beq_iff_eq, decide_eq_true_iff]

/-- After an ACK that retired a record the timer does not stand at 0 in OPEN: it was restarted or stopped (R146, R149). -/
theorem takeAck_timer {n : Nat} (retired : n ≠ 0) (timeout : s.session.timeout ≠ 0) :
    ¬ ((takeAck n s).session.timer = some 0 ∧ (takeAck n s).session.state = .open_) := by
  rintro ⟨timer, opened⟩
  unfold takeAck at timer opened
  dsimp only at timer opened
  rw [if_neg retired] at timer opened
  split at timer
  · simp [resumeSession] at timer
  · next notHeld =>
    rw [if_neg notHeld] at opened
    have opened : (retire n (s.onSession fun q => { q with acksTaken := q.acksTaken + 1 })).session.state = .open_ := opened
    rw [State.onSession_session, ackTimer] at timer
    simp only [opened, if_pos] at timer
    split at timer
    · simp only [Option.some.injEq, retire_session] at timer
      exact timeout timer
    · cases timer

/-- Settles O41: the expiry by its condition, which an ACK that retired a record leaves false, and then by the retry limit. -/
theorem retransmitTimerExpiryGoesBackOrHolds : Obligations.RetransmitTimerExpiryGoesBackOrHolds := by
  refine ⟨fun s other => ?_, fun n s retired timeout => ?_, fun s expired opened => ?_⟩
  · refine occurs_of_not ?_ _ _
    rw [retransmits_iff]
    rintro ⟨expired, opened⟩
    exact other.elim (· expired) (· opened)
  · exact occurs_of_not (retransmits_iff.not.mpr (takeAck_timer retired timeout)) _ _
  · have runs : exec .retransmitTimerExpiry s = .next (retransmitExpiry s) :=
      occurs_of (retransmits_iff.mpr ⟨expired, opened⟩) _ _
    refine ⟨fun below => ?_, fun limit => ?_⟩
    · rw [runs, retransmitExpiry, if_neg (Nat.not_le.mpr below)]
      rfl
    · rw [runs, retransmitExpiry, if_pos limit]
      rfl

/-! ### The scrubber (R60 to R63) -/

theorem execScrubPassEnd_of_match {position : Nat} {check : Word} (running : s.plan.pass = .running position check)
    (same : passCheck s.plan position check = s.plan.active.check) : exec .scrubPassEnd s =
      .next { s with plan := { s.plan with pass := .waiting 100, passes := s.plan.passes + 1 } } := by
  show execScrubPassEnd s = _
  simp only [execScrubPassEnd, running, if_pos same]
  rfl

theorem execScrubPassEnd_of_mismatch {position : Nat} {check : Word} (running : s.plan.pass = .running position check)
    (other : passCheck s.plan position check ≠ s.plan.active.check) :
    exec .scrubPassEnd s = .next (faultPlan (passCheck s.plan position check) s) := by
  show execScrubPassEnd s = _
  simp only [execScrubPassEnd, running, if_neg other]

/-- A pass read to any position and then to its end computes the check of the whole bank (R61, R198). -/
theorem passCheck_of_read {n : Nat} :
    passCheck s.plan n (crc32Run crc32Init ((serialize s.plan.active.contents).take n)) =
      planCheck s.plan.active.contents := by
  rw [passCheck, ← crc32Run_append, List.take_append_drop]
  rfl

/-- A pass that had read n octets and then reads up to a later position. -/
theorem crc32Run_read_on (r : Word) (l : List Byte) {n m : Nat} (later : n ≤ m) :
    crc32Run (crc32Run r (l.take n)) ((l.drop n).take (m - n)) = crc32Run r (l.take m) := by
  rw [← crc32Run_append, ← List.take_add, Nat.add_sub_cancel' later]

/-- Settles O35: a pass by its match, and a disturbance by the state of the pass. -/
theorem scrubberPassesAndDisturbances : Obligations.ScrubberPassesAndDisturbances := by
  refine ⟨fun s => ⟨fun due => ?_, fun early => ?_, fun position check running => ?_⟩,
    fun contents check read s shape => ?_⟩
  · show execScrubWaitExpiry s = _
    simp only [execScrubWaitExpiry, due]
    rfl
  · show execScrubWaitExpiry s = _
    rw [execScrubWaitExpiry]
    split
    · next left waits =>
      refine occurs_of_not ?_ _ _
      rw [decide_eq_true_iff]
      rintro rfl
      exact early waits
    all_goals rfl
  · exact ⟨fun same => execScrubPassEnd_of_match running same,
      fun other => ⟨_, execScrubPassEnd_of_mismatch running other, rfl⟩⟩
  · intro stored
    have disturbs : exec (.storageDisturbance contents check read) s =
        .next { stored with plan := { stored.plan with pass := advancePass s.plan read } } := occurs_of shape _ _
    refine ⟨fun left still => ?_, fun n running inside => ⟨?_, fun onward within => ?_⟩⟩
    · rw [disturbs]
      obtain waits | stopped := still
      · rw [show advancePass s.plan read = s.plan.pass by simp [advancePass, waits]]
      · rw [show advancePass s.plan read = s.plan.pass by simp [advancePass, stopped]]
    · have computed : passCheck s.plan n (crc32Run 0xFFFFFFFF ((serialize s.plan.active.contents).take n)) =
          planCheck s.plan.active.contents := passCheck_of_read
      refine ⟨fun same => execScrubPassEnd_of_match running (computed.trans same.symm), fun ended => ?_⟩
      by_contra other
      rw [execScrubPassEnd_of_mismatch running (by rw [computed]; exact fun same => other same.symm)] at ended
      have pass : (PassState.stopped) = .waiting 100 :=
        congrArg (fun r : Result => match r with | .next t => t.plan.pass | _ => .stopped) ended
      cases pass
    · rw [disturbs]
      have upTo : max n (min read (serialize s.plan.active.contents).length) = read := by omega
      rw [show advancePass s.plan read = .running read (crc32Run 0xFFFFFFFF ((serialize s.plan.active.contents).take read)) by
        simp only [advancePass, running, upTo, crc32Run_read_on _ _ onward]]

/-! ### How a command completes (R159, R161) -/

/-- Settles O45: the completion by the room in the response queue, and the held command by what it is held for. -/
theorem responsesJoinOrWait : Obligations.ResponsesJoinOrWait := by
  intro st results c rest s queue response
  have completes : complete st results s = formResponse ⟨response, true, false⟩ s := by
    simp only [complete, completeAs, queue]
    rfl
  refine ⟨fun room => ?_, fun full => ?_, fun h => ⟨fun held => if_pos held, fun other => if_neg other⟩⟩
  · rw [completes, formResponse, State.onAgent, if_pos (show s.agent.responses.length < Config.responsePlaces from room), queue]
    rfl
  · rw [completes, formResponse, State.onAgent,
      if_neg (show ¬ s.agent.responses.length < Config.responsePlaces from Nat.not_lt.mpr full)]

end Sys2Proof.Machine
end


section
/-! PROOFS. The cycle census at the new newest sample (4.2). -/

namespace Sys2Proof.Machine

variable {s : State} {r : RefRecord} {prior : Option RingSample} {x : RingSample} {k : Census}

/-! ### Gaps and crossings (R70) -/

theorem isGap_iff : isGap prior x.scan = true ↔ ∃ y, prior = some y ∧ 64 < beyond x.scan y.scan := by
  cases prior with
  | none => simp [isGap]
  | some y => simp [isGap, Config.gapScans]

theorem isCrossing_iff : isCrossing r prior x = true ↔
    ∃ y, prior = some y ∧ beyond x.scan y.scan ≤ 64 ∧ levelOf r y.value < 0 ∧ 0 ≤ levelOf r x.value := by
  cases prior with
  | none => simp [isCrossing]
  | some y => simp [isCrossing, isGap, Config.gapScans, and_assoc]

theorem keepWatch_eq (u : Half) (k : Census) : keepWatch u k = { k with watch := some (k.watch.getD u) } := by
  unfold keepWatch
  split
  · next unset => rw [unset]; rfl
  · next w set => rw [set]; cases k; simp_all

theorem censusCrossed_of_gap (gap : isGap prior x.scan = true) :
    censusCrossed r prior x k = { k with baseValid := false, watch := some (k.watch.getD x.scan) } := by
  rw [censusCrossed, if_pos gap, keepWatch_eq]

theorem censusCrossed_of_none (near : ¬ isGap prior x.scan = true) (flat : ¬ isCrossing r prior x = true) :
    censusCrossed r prior x k = { k with watch := some (k.watch.getD x.scan) } := by
  rw [censusCrossed, if_neg near, if_neg flat, keepWatch_eq]

theorem not_gap_of_crossing (crossing : isCrossing r prior x = true) : ¬ isGap prior x.scan = true := by
  rw [isCrossing_iff] at crossing
  rw [isGap_iff]
  obtain ⟨y, rfl, near, -⟩ := crossing
  rintro ⟨z, same, far⟩
  cases same
  omega

/-- The census after a crossing when no period ends: it becomes the watch scan and the base of the next period (R71). -/
def Census.crossedAt (u : Half) (k : Census) : Census := { k with lastCrossing := some u, watch := some u, baseValid := true }

theorem crossedAt_of_base (u : Half) (base : k.baseValid = true) :
    k.crossedAt u = { k with lastCrossing := some u, watch := some u } := by
  rw [Census.crossedAt, ← base]

theorem censusCrossed_of_crossing (crossing : isCrossing r prior x = true) :
    censusCrossed r prior x k = takeCrossing r x.scan k := by
  have watch : (takeCrossing r x.scan k).watch = some x.scan := by unfold takeCrossing; split <;> rfl
  rw [censusCrossed, if_neg (not_gap_of_crossing crossing), if_pos crossing, keepWatch_eq, watch]
  conv_rhs => rw [show takeCrossing r x.scan k =
    { takeCrossing r x.scan k with watch := (takeCrossing r x.scan k).watch } from rfl, watch]
  rfl

theorem takeCrossing_of_lost (u : Half) (lost : k.state = .lost) : takeCrossing r u k = { k with
    state := .qualifying, lastCrossing := some u, watch := some u, baseValid := true, periods := 0, runShort := 0,
    shorts := 0, runLong := 0 } := by
  rw [takeCrossing, if_pos lost]

theorem takeCrossing_of_no_base (u : Half) (runs : k.state ≠ .lost) (noBase : k.baseValid = false ∨ k.lastCrossing = none) :
    takeCrossing r u k = k.crossedAt u := by
  rw [takeCrossing, if_neg runs]
  obtain invalid | never := noBase
  · simp only [invalid]
    rfl
  · simp only [never]
    cases k.baseValid <;> rfl

theorem takeCrossing_of_base (u c : Half) (runs : k.state ≠ .lost) (base : k.baseValid = true)
    (last : k.lastCrossing = some c) : takeCrossing r u k = (joinPeriod r (beyond u c) k).crossedAt u := by
  rw [takeCrossing, if_neg runs]
  simp only [base, last]
  rfl

/-! ### Sums (R71, R72) -/

theorem inBand_iff (sum : Nat) :
    inBand r sum = true ↔ 16 * r.bandMin.toNat ≤ sum ∧ sum ≤ 16 * r.bandMax.toNat := by
  simp [inBand, Config.periodsPerShort]

theorem joinPeriod_of_open (n : Nat) (short : k.periods + 1 ≠ 16) :
    joinPeriod r n k = { k with lastPeriod := n, runShort := k.runShort + n, periods := k.periods + 1 } := by
  rw [joinPeriod, if_neg (show ¬ k.periods + 1 = Config.periodsPerShort from short)]

/-- The census after its sixteenth period: a short sum, and at the eighth of those a long one (R72). -/
def Census.summed (sum n : Nat) (band : Bool) (k : Census) : Census :=
  { k with
    state := if band then .qualified else .outOfBand
    lastPeriod := n, lastShort := sum, periods := 0, runShort := 0
    shorts := if k.shorts + 1 = 8 then 0 else k.shorts + 1
    runLong := if k.shorts + 1 = 8 then 0 else k.runLong + sum
    lastLong := if k.shorts + 1 = 8 then k.runLong + sum else k.lastLong }

theorem joinPeriod_of_full (n : Nat) (full : k.periods + 1 = 16) :
    joinPeriod r n k = k.summed (k.runShort + n) n (inBand r (k.runShort + n)) := by
  rw [joinPeriod, if_pos (show k.periods + 1 = Config.periodsPerShort from full), joinLong, Census.summed]
  have eight : Config.shortsPerLong = 8 := rfl
  rw [eight]
  by_cases eighth : k.shorts + 1 = 8 <;> simp only [eighth, if_true, if_false]

/-! ### The LOST test and the events (R72, R74) -/

theorem isLost_iff {u w : Half} (tested : k.state = .qualifying ∨ k.state = .qualified ∨ k.state = .outOfBand)
    (watch : k.watch = some w) :
    isLost r u k = true ↔ newer u w = true ∧ 4 * r.bandMax.toNat < beyond u w := by
  obtain st | st | st := tested <;> simp [isLost, st, watch, Config.lostPeriods]

theorem not_newer_self (u : Half) : ¬ newer u u = true := by
  rw [newer_iff, (beyond_eq_zero_iff u u).mpr rfl]
  omega

/-- A crossing becomes the watch scan, so the LOST test finds nothing. -/
theorem not_isLost_at_watch {u : Half} (watch : k.watch = some u) : isLost r u k = false := by
  have same := not_newer_self u
  unfold isLost
  split <;> simp_all

theorem not_isLost_of_lost {u : Half} (lost : k.state = .lost) : isLost r u k = false := by
  unfold isLost
  split <;> simp_all

theorem bandEvent_self (st : CensusState) : bandEvent st st = none := by cases st <;> rfl

/-! ### The census step -/

/-- The reference with its census moved, and a gap counted (R70). -/
def RefState.seen (gap : Bool) (k : Census) (q : RefState) : RefState :=
  { q with census := k, gaps := if gap then q.gaps + 1 else q.gaps }

section
variable {p : PlanContents} {i : Fin 16} {k' : Census}

theorem censusSees_of_still (still : (s.ref i).census.state = .idle ∨ (s.ref i).census.state = .unchecked) :
    censusSees p i prior x s = s := by
  unfold censusSees
  obtain st | st := still <;> simp [st, censusRuns]

theorem censusSees_eq (runs : censusRuns (s.ref i).census.state = true)
    (crossed : censusCrossed (refRecord p i) prior x (s.ref i).census = k')
    (quiet : isLost (refRecord p i) x.scan k' = false) :
    censusSees p i prior x s =
      match bandEvent (s.ref i).census.state k'.state with
      | none => s.onRef i (RefState.seen (isGap prior x.scan) k')
      | some e => post e (BitVec.ofNat 16 i.val) (BitVec.ofNat 32 k'.lastShort)
          (s.onRef i (RefState.seen (isGap prior x.scan) k')) := by
  unfold censusSees
  simp only [crossed, if_pos runs, quiet]
  rfl

theorem censusSees_quiet (runs : censusRuns (s.ref i).census.state = true)
    (crossed : censusCrossed (refRecord p i) prior x (s.ref i).census = k')
    (quiet : isLost (refRecord p i) x.scan k' = false) (still : bandEvent (s.ref i).census.state k'.state = none) :
    censusSees p i prior x s = s.onRef i (RefState.seen (isGap prior x.scan) k') := by
  rw [censusSees_eq runs crossed quiet, still]

theorem censusSees_posts {e : EventKind} (runs : censusRuns (s.ref i).census.state = true)
    (crossed : censusCrossed (refRecord p i) prior x (s.ref i).census = k')
    (quiet : isLost (refRecord p i) x.scan k' = false) (posts : bandEvent (s.ref i).census.state k'.state = some e) :
    censusSees p i prior x s = post e (BitVec.ofNat 16 i.val) (BitVec.ofNat 32 k'.lastShort)
      (s.onRef i (RefState.seen (isGap prior x.scan) k')) := by
  rw [censusSees_eq runs crossed quiet, posts]

theorem onRef_onRef (f g : RefState → RefState) (present : s.refs.length = 16) :
    (s.onRef i f).onRef i g = s.onRef i fun q => g (f q) := by
  have read : (s.onRef i f).ref i = f (s.ref i) := by rw [State.ref_onRef i i f s present, if_pos rfl]
  simp only [State.onRef, State.onRefs] at read ⊢
  rw [read, List.set_set]

theorem censusSees_lost {w : Half} (present : s.refs.length = 16) (runs : censusRuns (s.ref i).census.state = true)
    (crossed : censusCrossed (refRecord p i) prior x (s.ref i).census = k')
    (lost : isLost (refRecord p i) x.scan k' = true) (still : bandEvent (s.ref i).census.state k'.state = none)
    (watch : k'.watch = some w) :
    censusSees p i prior x s = post .refLost (BitVec.ofNat 16 i.val) (w.setWidth 32)
      (s.onRef i (RefState.seen (isGap prior x.scan) { k' with state := .lost })) := by
  obtain rfl : k'.watch.getD 0 = w := by rw [watch]; rfl
  unfold censusSees
  simp only [crossed, if_pos runs, lost, still, if_true]
  rw [onRef_onRef _ _ present]
  rfl

theorem seen_of_gap (gap : isGap prior x.scan = true) (k : Census) :
    RefState.seen (isGap prior x.scan) k = fun q => { q with gaps := q.gaps + 1, census := k } := by
  rw [gap]
  rfl

theorem seen_of_near (near : ¬ isGap prior x.scan = true) (k : Census) :
    RefState.seen (isGap prior x.scan) k = fun q => { q with census := k } := by
  rw [Bool.eq_false_iff.mpr near]
  rfl

/-- In LOST the test finds nothing more, and the state stays or returns to QUALIFYING (R74, R75). -/
theorem censusSees_in_lost (lost : (s.ref i).census.state = .lost)
    (crossed : censusCrossed (refRecord p i) prior x (s.ref i).census = k')
    (ends : k'.state = .lost ∨ k'.state = .qualifying ∧ k'.watch = some x.scan) :
    censusSees p i prior x s = s.onRef i (RefState.seen (isGap prior x.scan) k') := by
  refine censusSees_quiet (by rw [lost]; rfl) crossed ?_ ?_
  · exact ends.elim not_isLost_of_lost fun back => not_isLost_at_watch back.2
  · rw [lost]
    obtain same | ⟨back, -⟩ := ends
    · rw [same]
      rfl
    · rw [back]
      rfl

/-- The census tests for LOST in these states (R74). -/
def tested (st : CensusState) : Prop := st = .qualifying ∨ st = .qualified ∨ st = .outOfBand

theorem runs_of_tested {st : CensusState} (h : tested st) : censusRuns st = true ∧ st ≠ .lost := by
  obtain rfl | rfl | rfl := h <;> exact ⟨rfl, nofun⟩

/-- Without a crossing the state stays, and the LOST test decides (R74). -/
theorem censusSees_uncrossed {w : Half} (present : s.refs.length = 16) (before : tested (s.ref i).census.state)
    (crossed : censusCrossed (refRecord p i) prior x (s.ref i).census = k') (same : k'.state = (s.ref i).census.state)
    (watch : k'.watch = some w) :
    (newer x.scan w = true ∧ 4 * (refRecord p i).bandMax.toNat < beyond x.scan w →
      censusSees p i prior x s = post .refLost (BitVec.ofNat 16 i.val) (w.setWidth 32)
        (s.onRef i (RefState.seen (isGap prior x.scan) { k' with state := .lost }))) ∧
    (¬ (newer x.scan w = true ∧ 4 * (refRecord p i).bandMax.toNat < beyond x.scan w) →
      censusSees p i prior x s = s.onRef i (RefState.seen (isGap prior x.scan) k')) := by
  have runs := (runs_of_tested before).1
  have still : bandEvent (s.ref i).census.state k'.state = none := by rw [same, bandEvent_self]
  have test := isLost_iff (r := refRecord p i) (u := x.scan) (by rw [same]; exact before) watch
  exact ⟨fun lost => censusSees_lost present runs crossed (test.mpr lost) still watch,
    fun kept => censusSees_quiet runs crossed (Bool.eq_false_iff.mpr (test.not.mpr kept)) still⟩

/-- A crossing whose census keeps its state, or moves it by a short sum (R71, R72). -/
theorem censusSees_crossed (crossing : isCrossing (refRecord p i) prior x = true) (before : tested (s.ref i).census.state)
    (crossed : censusCrossed (refRecord p i) prior x (s.ref i).census = k') (watch : k'.watch = some x.scan) :
    (bandEvent (s.ref i).census.state k'.state = none →
      censusSees p i prior x s = s.onRef i fun q => { q with census := k' }) ∧
    (∀ e, bandEvent (s.ref i).census.state k'.state = some e → censusSees p i prior x s =
      post e (BitVec.ofNat 16 i.val) (BitVec.ofNat 32 k'.lastShort) (s.onRef i fun q => { q with census := k' })) := by
  have runs := (runs_of_tested before).1
  rw [← seen_of_near (not_gap_of_crossing crossing)]
  exact ⟨fun still => censusSees_quiet runs crossed (not_isLost_at_watch watch) still,
    fun e posts => censusSees_posts runs crossed (not_isLost_at_watch watch) posts⟩

end

/-- Settles O21: the crossing decision by gap and crossing, the sums by their counts, then the LOST test. -/
theorem censusFollowsTheNewestSample : Obligations.CensusFollowsTheNewestSample := by
  intro p i prior x s present r k t level gap crossing watch lost
  have gapIff : isGap prior x.scan = true ↔ gap := isGap_iff
  have crossIff : isCrossing r prior x = true ↔ crossing := isCrossing_iff
  refine ⟨censusSees_of_still, fun isLost => ⟨fun far => ?_, fun near flat => ?_, fun crosses => ?_⟩, fun before =>
    ⟨fun far isLost => ?_, fun far kept => ?_, fun near flat isLost => ?_, fun near flat kept => ?_,
      fun crosses noBase => ?_, fun c crosses base last => ⟨fun short => ?_, fun full => ?_⟩⟩⟩
  · have far := gapIff.mpr far
    rw [← seen_of_gap far]
    exact censusSees_in_lost isLost (censusCrossed_of_gap far) (.inl isLost)
  · have near := gapIff.not.mpr near
    rw [← seen_of_near near]
    exact censusSees_in_lost isLost (censusCrossed_of_none near (crossIff.not.mpr flat)) (.inl isLost)
  · have crosses := crossIff.mpr crosses
    rw [← seen_of_near (not_gap_of_crossing crosses)]
    exact censusSees_in_lost isLost ((censusCrossed_of_crossing crosses).trans (takeCrossing_of_lost _ isLost))
      (.inr ⟨rfl, rfl⟩)
  · have far := gapIff.mpr far
    have seen := (censusSees_uncrossed (w := watch) present before (censusCrossed_of_gap far) rfl rfl).1 isLost
    rwa [seen_of_gap far] at seen
  · have far := gapIff.mpr far
    have seen := (censusSees_uncrossed (w := watch) present before (censusCrossed_of_gap far) rfl rfl).2 kept
    rwa [seen_of_gap far] at seen
  · have near := gapIff.not.mpr near
    have seen := (censusSees_uncrossed (w := watch) present before
      (censusCrossed_of_none near (crossIff.not.mpr flat)) rfl rfl).1 isLost
    rwa [seen_of_near near] at seen
  · have near := gapIff.not.mpr near
    have seen := (censusSees_uncrossed (w := watch) present before
      (censusCrossed_of_none near (crossIff.not.mpr flat)) rfl rfl).2 kept
    rwa [seen_of_near near] at seen
  · have crosses := crossIff.mpr crosses
    exact (censusSees_crossed crosses before ((censusCrossed_of_crossing crosses).trans
      (takeCrossing_of_no_base _ (runs_of_tested before).2 noBase)) rfl).1 (bandEvent_self _)
  · have crosses := crossIff.mpr crosses
    have crossed := (censusCrossed_of_crossing crosses).trans
      (takeCrossing_of_base x.scan c (runs_of_tested before).2 base last)
    rw [joinPeriod_of_open _ short, crossedAt_of_base _ (by exact base)] at crossed
    exact (censusSees_crossed crosses before crossed rfl).1 (bandEvent_self _)
  · intro sum band after
    have crosses := crossIff.mpr crosses
    have crossed := (censusCrossed_of_crossing crosses).trans
      (takeCrossing_of_base x.scan c (runs_of_tested before).2 base last)
    rw [joinPeriod_of_full _ full, crossedAt_of_base _ (by exact base)] at crossed
    have seen := censusSees_crossed crosses before crossed rfl
    have bandIff : inBand r sum = true ↔ band := inBand_iff sum
    have state : (if band then CensusState.qualified else .outOfBand) = if inBand r sum then .qualified else .outOfBand :=
      if_congr bandIff.symm rfl rfl
    have afterEq : after = s.onRef i fun q => { q with census := { k.summed sum (beyond x.scan c) (inBand r sum) with
        lastCrossing := some x.scan, watch := some x.scan } } := by
      simp only [after, state]
      rfl
    have ends : bandEvent k.state (k.summed sum (beyond x.scan c) (inBand r sum)).state =
        bandEvent k.state (if band then .qualified else .outOfBand) := by rw [state]; rfl
    rw [afterEq]
    refine ⟨fun inside same => seen.1 (ends.trans ?_), fun inside other => seen.2 _ (ends.trans ?_),
      fun outside same => seen.1 (ends.trans ?_), fun outside other => seen.2 _ (ends.trans ?_)⟩
    · rw [if_pos inside, same, bandEvent_self]
    · rw [if_pos inside]
      exact if_neg other
    · rw [if_neg outside, same, bandEvent_self]
    · rw [if_neg outside]
      exact if_neg other

end Sys2Proof.Machine
end


section
/-! PROOFS. Fields written and read back (chapter 12), and the agent's checks and settings (chapter 9). -/

namespace Sys2Proof.Machine

variable {s : State} {c : Command}

/-! ### Fields written and read back -/

theorem ofBe_cons (b : Byte) (l : List Byte) : ofBe (b :: l) = b.toNat * 256 ^ l.length + ofBe l := by
  have fold (l : List Byte) (a : Nat) : l.foldl (fun a b => a * 256 + b.toNat) a = a * 256 ^ l.length + ofBe l := by
    induction l generalizing a with
    | nil => simp [ofBe]
    | cons x xs ih =>
      rw [ofBe, List.foldl_cons, List.foldl_cons, ih, ih, List.length_cons, Nat.pow_succ]
      ring
  rw [ofBe, List.foldl_cons, fold]
  simp

/-- A field of n octets holds its number modulo 256^n. -/
theorem ofBe_be (n v : Nat) : ofBe (be n v) = v % 256 ^ n := by
  induction n with
  | zero => simp [be, ofBe, Nat.mod_one]
  | succ n ih =>
    have split : v % 256 ^ (n + 1) = v % 256 ^ n + 256 ^ n * (v / 256 ^ n % 2 ^ 8) := Nat.mod_mul
    rw [be, ofBe_cons, ih, be_length, BitVec.toNat_ofNat, split, Nat.mul_comm, Nat.add_comm]

@[simp] theorem be_zero (v : Nat) : be 0 v = [] := rfl

/-- A field at the front of a run of octets reads back. -/
theorem fieldAt_be_append (n v : Nat) (l : List Byte) : fieldAt (be n v ++ l) 0 n = v % 256 ^ n := by
  rw [fieldAt, List.drop_zero, List.take_left' (be_length n v), ofBe_be]

theorem fieldAt_be (n v : Nat) : fieldAt (be n v) 0 n = v % 256 ^ n := by
  simpa using fieldAt_be_append n v []

/-- The fields before an offset do not matter. -/
theorem fieldAt_append_right {l r : List Byte} {o : Nat} (n : Nat) (past : l.length ≤ o) :
    fieldAt (l ++ r) o n = fieldAt r (o - l.length) n := by
  rw [fieldAt, fieldAt, List.drop_append, List.drop_eq_nil_of_le past, List.nil_append]

theorem fieldAt_cons {b : Byte} {r : List Byte} {o : Nat} (n : Nat) (past : 1 ≤ o) :
    fieldAt (b :: r) o n = fieldAt r (o - 1) n := fieldAt_append_right (l := [b]) n past

theorem octetAt_append_right {l r : List Byte} {o : Nat} (past : l.length ≤ o) :
    octetAt (l ++ r) o = octetAt r (o - l.length) := by
  rw [octetAt, octetAt, List.getD_append_right l r 0 o past]

theorem octetAt_cons {b : Byte} {r : List Byte} {o : Nat} (past : 1 ≤ o) : octetAt (b :: r) o = octetAt r (o - 1) :=
  octetAt_append_right (l := [b]) past

@[simp] theorem octetAt_cons_zero (b : Byte) (r : List Byte) : octetAt (b :: r) 0 = b := rfl

/-! ### Ranges and the first that fails (R160, R197) -/

theorem firstFailing_cons (b : Bool) (l : List Bool) :
    firstFailing (b :: l) = if b then (firstFailing l).map (· + 1) else some 0 := by
  cases b <;> rfl

@[simp] theorem firstFailing_nil : firstFailing [] = none := rfl

/-- The first check that fails, counted from i: this one, or the first of the rest. -/
theorem firstFailingFrom_cons {b : Bool} {fails : Prop} [Decidable fails] (h : b = false ↔ fails) (l : List Bool) (i : Nat) :
    (firstFailing (b :: l)).map (· + i) = if fails then some i else (firstFailing l).map (· + (i + 1)) := by
  cases b with
  | false => rw [if_pos (h.mp rfl), firstFailing_cons, if_neg (by simp), Option.map_some, Nat.zero_add]
  | true =>
    rw [if_neg fun bad => absurd (h.mpr bad) (by simp), firstFailing_cons, if_pos rfl, Option.map_map]
    congr 1
    funext n
    simp only [Function.comp_apply]
    omega

theorem firstFailingFrom_pass (l : List Bool) (i : Nat) :
    (firstFailing (true :: l)).map (· + i) = (firstFailing l).map (· + (i + 1)) := by
  rw [firstFailingFrom_cons (fails := False) (by simp), if_neg not_false]

theorem firstFailing_eq_from (l : List Bool) : firstFailing l = (firstFailing l).map (· + 0) := by simp

theorem codeOk_fails_iff (b : Byte) (n : Nat) : codeOk b n = false ↔ n ≤ b.toNat := by simp [codeOk]

theorem yesNoOk_fails_iff (b : Byte) : yesNoOk b = false ↔ 1 < b.toNat := by simp [yesNoOk]

theorem inRange_fails_iff (lo hi v : Nat) : inRange lo hi v = false ↔ v < lo ∨ hi < v := by
  simp [inRange]
  omega

theorem yesNoOk_iff (b : Byte) : yesNoOk b = true ↔ b.toNat ≤ 1 := decide_eq_true_iff

theorem codeOk_iff (b : Byte) (n : Nat) : codeOk b n = true ↔ b.toNat < n := decide_eq_true_iff

theorem inRange_iff (lo hi v : Nat) : inRange lo hi v = true ↔ lo ≤ v ∧ v ≤ hi := by simp [inRange]

/-! ### Which command begins, and the four checks in order (R159, R160) -/

theorem beginning_iff : beginning s = some c ↔
    s.agent.held = none ∧ s.agent.waiting = none ∧ s.agent.resetPending = none ∧ ∃ rest, s.agent.queue = c :: rest := by
  refine ⟨fun begins => ?_, fun ⟨held, waiting, reset, rest, queue⟩ => ?_⟩
  · obtain ⟨held, waiting, reset, head⟩ := beginning_some begins
    exact ⟨held, waiting, reset, List.head?_eq_some_iff.mp head⟩
  · simp [beginning, held, waiting, reset, queue]

theorem begins_of {k : CommandCode} {body : Command → State → State} (begins' : beginning s = some c)
    (code : c.code = commandOctet k) : begins k body s = .next (body c s) := by
  simp only [begins, begins', code, beq_self_eq_true]
  rfl

theorem begins_of_other {k : CommandCode} {body : Command → State → State} (begins' : beginning s = some c)
    (code : c.code ≠ commandOctet k) : begins k body s = .next s := by
  simp only [begins, begins', beq_eq_false_iff_ne.mpr code]
  rfl

/-- Checks 2 to 4 of R160, each of which refuses a command before its owner sees it. -/
theorem checked_refuses (k : CommandCode) (owner : List Byte → State → State) (c : Command) (s : State) :
    (lengthOk k c.args = false → checked k owner c s = complete .badLength [] s) ∧
    (lengthOk k c.args = true →
      (s.part.state = .defect → k ≠ .statusRead → checked k owner c s =
        complete .wrongState [partCode s.part.state, sessionCode s.session.state] s) ∧
      (s.part.state ≠ .defect ∨ k = .statusRead → ∀ n, agentRangeFailure k c.args = some n →
        checked k owner c s = complete .badArgument [BitVec.ofNat 8 n] s)) := by
  refine ⟨fun length => ?_, fun length => ⟨fun defect other => ?_, fun awake n range => ?_⟩⟩
  · rw [checked, length]
    rfl
  · rw [checked, length, if_neg (by simp), if_pos ⟨defect, other⟩]
    rfl
  · rw [checked, length, if_neg (by simp), if_neg (by tauto), range]
    exact congrArg (fun results => complete .badArgument results s) (be_one n)

/-- The row of a command: it is not taken for another code, and otherwise goes through the checks. -/
def RowChecks (k : CommandCode) (row : State → Result) (c : Command) (s : State) : Prop :=
  (c.code ≠ commandOctet k → row s = .next s) ∧
  (c.code = commandOctet k →
    (lengthOk k c.args = false → row s = .next (complete .badLength [] s)) ∧
    (lengthOk k c.args = true →
      (s.part.state = .defect → k ≠ .statusRead → row s = .next (complete .wrongState
        [partCode s.part.state, sessionCode s.session.state] s)) ∧
      (s.part.state ≠ .defect ∨ k = .statusRead → ∀ n, agentRangeFailure k c.args = some n →
        row s = .next (complete .badArgument [BitVec.ofNat 8 n] s))))

theorem rowChecks_of {k : CommandCode} {row : State → Result} {body : Command → State → State}
    {owner : List Byte → State → State} (begins' : beginning s = some c) (row_eq : row s = begins k body s)
    (addressed : body c s = checked k owner c s) : RowChecks k row c s := by
  obtain ⟨badLength, passed⟩ := checked_refuses k owner c s
  refine ⟨fun other => row_eq.trans (begins_of_other begins' other), fun code => ?_⟩
  have runs : row s = .next (checked k owner c s) := by rw [row_eq, begins_of begins' code, addressed]
  rw [runs]
  exact ⟨fun length => by rw [badLength length], fun length =>
    ⟨fun defect other => by rw [(passed length).1 defect other], fun awake n range => by
      rw [(passed length).2 awake n range]⟩⟩

theorem rowChecks_of_answered {k : CommandCode} {row : State → Result} {owner : List Byte → State → State}
    (begins' : beginning s = some c) (row_eq : row s = answered k owner s) : RowChecks k row c s :=
  rowChecks_of begins' row_eq rfl

theorem rowChecks_reportFlush (begins' : beginning s = some c) (addressed : c.broadcast = none) :
    RowChecks .reportFlush (exec .reportFlush) c s := by
  have row : exec .reportFlush s = execReportFlush s := rfl
  rw [execReportFlush] at row
  exact rowChecks_of (owner := fun _ u => reportFlush u) begins' row (by simp only [addressed])

theorem rowChecks_partReset (begins' : beginning s = some c) (addressed : c.broadcast = none) :
    RowChecks .partReset (exec .partReset) c s := by
  have row : exec .partReset s = execPartReset s := rfl
  rw [execPartReset] at row
  exact rowChecks_of (owner := fun _ u => setPending none (completeAs true .ok [] u)) begins' row (by simp only [addressed])

/-- The command rows of the table with their codes (R193). -/
def commandRows : List (CommandCode × Instr) :=
  [(.statusRead, .statusRead), (.countersRead, .countersRead), (.planClear, .planClear),
    (.planCopy, .planCopy), (.streamLoad, .streamLoad), (.streamRemove, .streamRemove), (.circuitLoad, .circuitLoad),
    (.referenceLoad, .referenceLoad), (.planRead, .planRead), (.planCommit, .planCommit), (.sessionOpen, .sessionOpen),
    (.sessionClose, .sessionClose), (.reportConfig, .reportConfig), (.reportFlush, .reportFlush),
    (.circuitRead, .circuitRead), (.referenceRead, .referenceRead), (.eventConfig, .eventConfig),
    (.meteringClear, .meteringClear), (.partReset, .partReset)]

theorem rows_check (begins' : beginning s = some c) (addressed : c.broadcast = none) :
    ∀ x ∈ commandRows, RowChecks x.1 (exec x.2) c s := by
  have answeredRow {k : CommandCode} {i : Instr} {owner : List Byte → State → State}
      (row_eq : exec i s = answered k owner s) : RowChecks k (exec i) c s := rowChecks_of_answered begins' row_eq
  simp only [commandRows, List.forall_mem_cons]
  exact ⟨answeredRow rfl, answeredRow rfl, answeredRow rfl, answeredRow rfl, answeredRow rfl, answeredRow rfl,
    answeredRow rfl, answeredRow rfl, answeredRow rfl, answeredRow rfl, answeredRow rfl, answeredRow rfl, answeredRow rfl,
    rowChecks_reportFlush begins' addressed, answeredRow rfl, answeredRow rfl, answeredRow rfl, answeredRow rfl,
    rowChecks_partReset begins' addressed, nofun⟩

theorem knownCommand_iff (code : Byte) : knownCommand code = true ↔ ∃ k, code = commandOctet k := by
  simp only [knownCommand, List.any_eq_true, beq_iff_eq]
  refine ⟨fun ⟨k, _, same⟩ => ⟨k, same.symm⟩, fun ⟨k, same⟩ => ⟨k, ?_, same.symm⟩⟩
  cases k <;> decide

/-! ### Lengths and ranges of the arguments (R160, R165 to R170) -/

theorem lengthOk_iff_of_fixed {k : CommandCode} {n : Nat} {args : List Byte} (fixed : requiredLength k args = some n) :
    lengthOk k args = true ↔ args.length = n := by
  rw [lengthOk, fixed, beq_iff_eq, Option.some_inj]
  exact eq_comm

theorem listLength_cons (n : Byte) (rest : List Byte) (each : Nat) : listLength (n :: rest) each =
    if 1 ≤ n.toNat ∧ n.toNat ≤ 8 then some (1 + each * n.toNat) else none := rfl

theorem lengthOk_iff_of_list {k : CommandCode} {each : Nat} {args : List Byte}
    (list : requiredLength k args = listLength args each) : lengthOk k args = true ↔
      ∃ n rest, args = n :: rest ∧ 1 ≤ n.toNat ∧ n.toNat ≤ 8 ∧ rest.length = each * n.toNat := by
  rw [lengthOk, list, beq_iff_eq]
  cases args with
  | nil => simp [listLength, countArg, octetAt]
  | cons n rest =>
    rw [listLength_cons]
    simp only [List.length_cons, List.cons.injEq]
    by_cases inside : 1 ≤ n.toNat ∧ n.toNat ≤ 8
    · rw [if_pos inside, Option.some_inj]
      refine ⟨fun length => ⟨n, rest, ⟨rfl, rfl⟩, inside.1, inside.2, by omega⟩, ?_⟩
      rintro ⟨m, tail, ⟨rfl, rfl⟩, -, -, length⟩
      omega
    · rw [if_neg inside]
      refine ⟨nofun, ?_⟩
      rintro ⟨m, tail, ⟨rfl, rfl⟩, low, high, -⟩
      exact absurd ⟨low, high⟩ inside

/-- Settles O44: the command that begins, the checks that every row shares, the argument lengths and ranges one by one, and
the codes. -/
theorem theAgentRefusesInOrder : Obligations.TheAgentRefusesInOrder := by
  refine ⟨fun _ _ => beginning_iff, fun c s begins' addressed => ⟨fun unknown => ?_, fun k code => ?_,
    rows_check begins' addressed⟩, fun args => ⟨?_, ?_, ?_, ?_, ?_, ?_, ?_, ?_⟩, by decide⟩
  · show execUnknownCommand s = _
    simp only [execUnknownCommand, begins']
    refine occurs_of ?_ _ _
    have fresh := (knownCommand_iff c.code).not.mpr fun ⟨k, code⟩ => unknown k code
    simpa using fresh
  · show execUnknownCommand s = _
    simp only [execUnknownCommand, begins']
    exact occurs_of_not (by simpa using (knownCommand_iff c.code).mpr ⟨k, code⟩) _ _
  · simp only [List.forall_mem_cons, ← List.length_eq_zero_iff (l := args)]
    exact ⟨lengthOk_iff_of_fixed rfl, lengthOk_iff_of_fixed rfl, lengthOk_iff_of_fixed rfl, lengthOk_iff_of_fixed rfl,
      lengthOk_iff_of_fixed rfl, lengthOk_iff_of_fixed rfl, lengthOk_iff_of_fixed rfl, nofun⟩
  · simp only [List.forall_mem_cons]
    exact ⟨lengthOk_iff_of_fixed rfl, lengthOk_iff_of_fixed rfl, lengthOk_iff_of_fixed rfl, lengthOk_iff_of_fixed rfl,
      lengthOk_iff_of_fixed rfl, lengthOk_iff_of_fixed rfl, lengthOk_iff_of_fixed rfl, lengthOk_iff_of_fixed rfl,
      lengthOk_iff_of_fixed rfl, lengthOk_iff_of_fixed rfl, nofun⟩
  · simp only [List.forall_mem_cons]
    exact ⟨lengthOk_iff_of_list rfl, lengthOk_iff_of_list rfl, nofun⟩
  · intro n
    simp only [agentRangeFailure, octetAt_cons_zero, firstFailing_cons, codeOk_iff, yesNoOk_iff, firstFailing_nil,
      Option.map_none, Nat.lt_succ_iff (n := 1), and_self]
  · intro bank section_ start count
    rw [agentRangeFailure, firstFailing_eq_from, firstFailingFrom_cons (codeOk_fails_iff _ 2),
      firstFailingFrom_cons (codeOk_fails_iff _ 4)]
    rfl
  · intro id first small
    have zero : inRange 1 65535 id = false ↔ id = 0 := by rw [inRange_fails_iff]; omega
    rw [agentRangeFailure, fieldAt_be_append, Nat.mod_eq_of_lt (by omega), firstFailing_eq_from, firstFailingFrom_cons zero]
    rfl
  · intro mask small
    rw [agentRangeFailure, fieldAt_be, Nat.mod_eq_of_lt (by omega), firstFailing_cons]
    simp
  · intro interval urgent retry timeout hi hu hr ht
    have h1 : inRange 1 600 interval = false ↔ interval = 0 ∨ 600 < interval := by rw [inRange_fails_iff]; omega
    have h2 : inRange 1 65535 urgent = false ↔ urgent = 0 := by rw [inRange_fails_iff]; omega
    have h3 : inRange 1 15 retry = false ↔ retry = 0 ∨ 15 < retry := by rw [inRange_fails_iff]; omega
    have h4 : inRange 50 5000 timeout = false ↔ timeout < 50 ∨ 5000 < timeout := inRange_fails_iff _ _ _
    have settings : agentRangeFailure .reportConfig (be 2 interval ++ be 2 urgent ++ be 1 retry ++ be 2 timeout) =
        firstFailing [inRange 1 600 interval, inRange 1 65535 urgent, inRange 1 15 retry, inRange 50 5000 timeout] := by
      simp only [agentRangeFailure, List.append_assoc, fieldAt_append_right, fieldAt_be_append, fieldAt_be, be_length,
        le_refl, Nat.reduceLeDiff, Nat.reduceSub, Nat.sub_self, Nat.mod_eq_of_lt (show interval < 256 ^ 2 by omega),
        Nat.mod_eq_of_lt (show urgent < 256 ^ 2 by omega), Nat.mod_eq_of_lt (show retry < 256 ^ 1 by omega),
        Nat.mod_eq_of_lt (show timeout < 256 ^ 2 by omega)]
    rw [settings, firstFailing_eq_from, firstFailingFrom_cons h1, firstFailingFrom_cons h2, firstFailingFrom_cons h3,
      firstFailingFrom_cons h4]
    rfl

end Sys2Proof.Machine
end


section
/-! PROOFS. COMMAND frames, the session's commands and ACKs, settings, flush and reset (chapters 8 and 9). -/

namespace Sys2Proof.Machine

variable {s : State} {c : Command}

/-! ### COMMAND frames (R156 to R158) -/

theorem queueCommand_eq (c : Command) (s : State) : queueCommand c s = { s with agent :=
    if s.agent.queue.length < 4 then { s.agent with queue := s.agent.queue ++ [c] }
    else { s.agent with overruns := s.agent.overruns + 1 } } := by
  have places : Config.commandPlaces = 4 := rfl
  rw [queueCommand, places]
  split <;> rfl

theorem commandFrame_addressed (tag code : Byte) (args : List Byte) (s : State) :
    commandFrame none (tag :: code :: args) s = addressedCommand tag code args s := by
  rw [commandFrame, if_neg (by simp)]
  rfl

theorem commandFrame_broadcast (n : Nat) (fate : CopyFate) (tag code : Byte) (args : List Byte) (s : State) :
    commandFrame (some (n, fate)) (tag :: code :: args) s = broadcastCommand tag code args n fate s := by
  rw [commandFrame, if_neg (by simp)]
  rfl

theorem any_queuedMatch_iff (tag code : Byte) (q : List Command) :
    q.any (queuedMatch tag code) = true ↔ ∃ c ∈ q, c.tag = tag ∧ c.code = code ∧ c.broadcast = none := by
  simp [queuedMatch, and_assoc]

theorem broadcastTaken_iff (code : Byte) :
    (code = commandOctet .reportFlush ∨ code = commandOctet .partReset) ↔ code.toNat = 0x23 ∨ code.toNat = 0x51 :=
  or_congr BitVec.toNat_inj.symm BitVec.toNat_inj.symm

/-- Settles O43: an addressed command by the chain of R157, a broadcast by its code and the part state. -/
theorem commandFramesAreTested : Obligations.CommandFramesAreTested := by
  intro tag code args s a queued matched retained
  have matchedIff : s.agent.queue.any (queuedMatch tag code) = true ↔ matched := any_queuedMatch_iff tag code _
  refine ⟨fun b body short => ?_, fun found => ?_, fun fresh other => ?_, fun r fresh held sameTag sameCode => ?_,
    fun n fate => ⟨fun awake taken => ?_, fun ignored => ?_⟩⟩
  · unfold commandFrame
    exact if_pos short
  · rw [commandFrame_addressed, addressedCommand, if_pos (matchedIff.mpr found)]
    rfl
  · rw [commandFrame_addressed, addressedCommand, if_neg (matchedIff.not.mpr fresh)]
    cases held : s.agent.retained with
    | none => exact queueCommand_eq _ s
    | some r => exact (if_neg fun same => other ⟨r, held, same⟩).trans (queueCommand_eq _ s)
  · have repeats : commandFrame none (tag :: code :: args) s =
        if s.agent.responses.any (fun x => x.original) then s.onAgent fun a => { a with duplicates := a.duplicates + 1 }
        else if s.agent.responses.length < 4 then
          s.onAgent fun a => { a with responses := a.responses ++ [⟨r, false, false⟩], repeated := a.repeated + 1 }
        else s.onAgent fun a => { a with overruns := a.overruns + 1 } := by
      have held : s.agent.retained = some r := held
      rw [commandFrame_addressed, addressedCommand, if_neg (matchedIff.not.mpr fresh), held]
      exact if_pos ⟨sameTag, sameCode⟩
    rw [repeats]
    refine ⟨fun waits => ?_, fun left => ⟨fun room => ?_, fun full => ?_⟩⟩
    · rw [if_pos (by simpa using waits)]
      rfl
    · rw [if_neg (by simpa using left), if_pos room]
      rfl
    · rw [if_neg (by simpa using left), if_neg (Nat.not_lt.mpr full)]
      rfl
  · rw [commandFrame_broadcast, broadcastCommand, if_pos ⟨awake, (broadcastTaken_iff code).mpr taken⟩]
    exact queueCommand_eq _ s
  · rw [commandFrame_broadcast, broadcastCommand, if_neg]
    · rfl
    · rw [broadcastTaken_iff]
      tauto

/-! ### SESSION_OPEN and SESSION_CLOSE (R139, R150) -/

theorem sessionCode_closed (closed : s.session.state = .closed) :
    [partCode s.part.state, sessionCode s.session.state] = [partCode s.part.state, 0] := by rw [closed]; rfl

theorem half_of_field (h : Half) : BitVec.ofNat 16 (h.toNat % 256 ^ 2) = h := by
  apply BitVec.eq_of_toNat_eq
  rw [BitVec.toNat_ofNat]
  have := h.isLt
  omega

theorem word_of_field (w : Word) : BitVec.ofNat 32 (w.toNat % 256 ^ 4) = w := by
  apply BitVec.eq_of_toNat_eq
  rw [BitVec.toNat_ofNat]
  have := w.isLt
  omega

/-- Taking the session apart, block by block (R150). -/
theorem takenApart_eq (s : State) : takenApart s = { s with
    session := { s.session with
      state := .closed, id := none, highest := none, cause := .none, timeouts := 0, timer := none, queue := []
      restored := s.session.restored + BitVec.ofNat 32 s.session.queue.length }
    builder := { s.builder with timer := none, closings := unbindClosings s.session.queue s.builder.closings }
    links := (orphanTx s.session.queue s).links } := rfl

/-- Settles O42: each command by the session's state, and a close by the units its records name. -/
theorem sessionOpensAndCloses : Obligations.SessionOpensAndCloses := by
  refine ⟨fun id first c s admitted args => ⟨fun closed => ?_, fun live => ?_⟩,
    fun c s admitted => ?_⟩
  · have notLive : ¬ sessionLive s = true := by rw [sessionLive_iff]; exact not_not.mpr closed
    show execSessionOpen s = _
    rw [execSessionOpen, answered_of_admitted admitted, sessionOpen, if_neg notLive, args, fieldAt_be_append,
      half_of_field, fieldAt_append_right 2 (by simp), be_length, Nat.sub_self, fieldAt_be, half_of_field]
    rfl
  · show execSessionOpen s = _
    rw [execSessionOpen, answered_of_admitted admitted, sessionOpen, if_pos ((sessionLive_iff s).mpr live)]
    rfl
  · intro units bound back closed
    have boundEq : carriedBy s.session.queue = bound := funext (carriedBy_eq s.session.queue)
    have unitsEq : unitsOf s.session.queue = units := rfl
    have apart : takenApart s = closed := by
      rw [takenApart_eq, unbindClosings, boundEq]
      rfl
    have row : exec .sessionClose s = .next (if sessionLive s then closeSession s else refuseState s) :=
      answered_of_admitted admitted _
    refine ⟨fun isClosed => ?_, fun live => ?_⟩
    · rw [row, if_neg (by rw [sessionLive_iff]; exact not_not.mpr isClosed), refuseState, wrongStateResults,
        sessionCode_closed isClosed]
    · rw [row, if_pos ((sessionLive_iff s).mpr live), closeSession_eq, boundEq, unitsEq, apart]
      exact ⟨fun none => by rw [if_pos none], fun some => by rw [if_neg some]; rfl⟩

/-! ### Acknowledgements (R143 to R146, R149) -/

theorem retire_eq (n : Nat) (s : State) : retire n s = { s with
    session := { s.session with
      queue := s.session.queue.drop n
      acknowledged := s.session.acknowledged + BitVec.ofNat 32 (s.session.queue.take n).length }
    builder := { s.builder with closings := s.builder.closings.filter fun k => !carriedBy (s.session.queue.take n) k }
    engine := if unitsOf (s.session.queue.take n) = [] then s.engine
      else { s.engine with claims := s.engine.claims ++ [.ackRelease (unitsOf (s.session.queue.take n))] }
    links := (orphanTx (s.session.queue.take n) s).links } := by
  unfold retire
  dsimp only
  split <;> rfl

theorem onSession_ackTimer (opened : s.session.state = .open_) : s.onSession ackTimer = { s with session := { s.session with
    timeouts := 0
    timer := if s.session.queue.any fun r => r.state == .sent then some s.session.timeout else none } } := by
  rw [State.onSession, ackTimer, if_pos opened]

/-- Settles O40: the four checks as a chain, and what the first n records retire block by block. -/
theorem acknowledgementsAreCheckedAndRetire : Obligations.AcknowledgementsAreCheckedAndRetire := by
  refine ⟨fun body s => ?_, fun n s inside => ?_⟩
  · intro stray stale id seq place
    refine ⟨fun wrong => ?_, fun whole => ?_⟩
    · rw [ackFrame, if_pos wrong]
      rfl
    · have idEq : BitVec.ofNat 16 (fieldAt body 0 2) = id := by rw [fieldAt_two (by omega)]
      have seqEq : BitVec.ofNat 16 (fieldAt body 2 2) = seq := by rw [fieldAt_two (by omega)]
      simp only [ackFrame, if_neg (not_not.mpr whole), idEq, seqEq]
      refine ⟨fun closed => ?_, fun live other => ?_, fun live same h highest => ?_⟩
      · rw [if_pos (by simp [sessionLive, closed])]
        rfl
      all_goals
        have notClosed : ¬ (!sessionLive s) = true := by simpa using (sessionLive_iff s).mpr live
        rw [if_neg notClosed]
      · rw [if_pos other]
        rfl
      · rw [if_neg (not_not.mpr same), highest]
        refine ⟨fun later => ?_, fun reached => ?_⟩
        · exact if_neg (Nat.not_le.mpr later)
        · exact if_pos reached
  · intro gone kept units base retired released
    have carried : carriedBy gone = fun k => gone.any fun r => k.bound == some r.sequence := funext (carriedBy_eq gone)
    have count : gone.length = n := by rw [List.length_take, Nat.min_eq_left inside]
    have acked : retire n (s.onSession fun q => { q with acksTaken := q.acksTaken + 1 }) =
        released { s with session := { s.session with
          acksTaken := s.session.acksTaken + 1, acknowledged := s.session.acknowledged + BitVec.ofNat 32 n
          queue := kept } } := by
      rw [retire_eq]
      show State.mk .. = State.mk ..
      have carried : carriedBy ((s.onSession fun q => { q with acksTaken := q.acksTaken + 1 }).session.queue.take n) = _ :=
        carried
      have count : ((s.onSession fun q => { q with acksTaken := q.acksTaken + 1 }).session.queue.take n).length = n := count
      rw [carried, count]
      rfl
    refine ⟨fun opened => ?_, fun held => ?_⟩
    · have notHeld : s.session.state ≠ .hold := by simp [opened]
      simp only [takeAck, acked, if_neg notHeld]
      split
      · next none =>
        simp only [retired, if_pos none]
      · next some =>
        simp only [retired, if_neg some]
        exact onSession_ackTimer (s := released _) opened
    · simp only [takeAck, acked, if_pos held]
      split <;> rfl

end Sys2Proof.Machine
end


section
/-! PROOFS. Settings, flush and reset; the commit's phases; status, counters and records of the plan (chapters 3 and 9). -/

namespace Sys2Proof.Machine

variable {s : State} {c : Command}

/-! ### Settings (R168, R170) -/

theorem appliedMask_eq (mask : Word) : appliedMask mask = mask ||| 1 ||| 128 := by
  rw [appliedMask, BitVec.or_assoc]
  rfl

/-- Settles O47: the fields of each command read back from its arguments. -/
theorem settingsAreReplacedAtOnce : Obligations.SettingsAreReplacedAtOnce := by
  refine fun c s => ⟨fun interval urgent retry timeout admitted args h1 h2 h3 h4 h5 h6 h7 h8 => ?_,
    fun mask admitted args => ?_⟩
  · have whole : c.args.take 7 = c.args := List.take_of_length_le (by simp [args])
    have fields : fieldAt c.args 0 2 = interval ∧ fieldAt c.args 2 2 = urgent ∧ fieldAt c.args 4 1 = retry ∧
        fieldAt c.args 5 2 = timeout := by
      simp only [args, List.append_assoc, fieldAt_append_right, fieldAt_be_append, fieldAt_be, be_length, le_refl,
        Nat.reduceLeDiff, Nat.reduceSub, Nat.sub_self]
      omega
    obtain ⟨f1, f2, f3, f4⟩ := fields
    have row : exec .reportConfig s = .next (reportConfig c.args s) := answered_of_admitted admitted _
    rw [row, reportConfig, whole, f1, f2, f3, f4]
    rfl
  · intro applied
    have row : exec .eventConfig s = .next (eventConfig c.args s) := answered_of_admitted admitted _
    rw [row, eventConfig, args, fieldAt_be, word_of_field, appliedMask_eq]
    rfl

/-! ### REPORT_FLUSH and PART_RESET (R131, R158, R171) -/

theorem execReportFlush_of_admitted (admitted : Admitted .reportFlush c s) :
    exec .reportFlush s = .next (reportFlush s) := by
  have row : exec .reportFlush s = execReportFlush s := rfl
  rw [row, execReportFlush, begins_of admitted.begins admitted.code]
  simp only [admitted.addressed, checked_of_admitted admitted]

theorem execReportFlush_of_broadcast {n : Nat} {fate : CopyFate} (admitted : AdmittedBroadcast .reportFlush c n fate s) :
    exec .reportFlush s = .next (completeBroadcast (flushTrigger s)) := by
  have row : exec .reportFlush s = execReportFlush s := rfl
  rw [row, execReportFlush, begins_of admitted.begins admitted.code]
  simp only [admitted.broadcast]

/-- A broadcast that completes leaves the queue; nothing was held. -/
theorem completeBroadcast_eq (idle : s.agent.held = none) :
    completeBroadcast s = { s with agent := { s.agent with queue := s.agent.queue.tail } } := by
  rw [completeBroadcast, State.onAgent, ← idle]

/-- Settles O48: REPORT_FLUSH by the session and the report queue, and the broadcast. -/
theorem reportFlushTriggersARun : Obligations.ReportFlushTriggersARun := by
  refine fun c s => ⟨fun admitted => ⟨fun closed => ?_, fun live full => ?_, fun live room => ?_⟩,
    fun n fate admitted => ?_⟩
  · rw [execReportFlush_of_admitted admitted, reportFlush, if_pos (by simp [sessionLive, closed]), refuseState,
      wrongStateResults, closed]
  · have refuses : ¬ builderAccepts s = true := by
      rw [builderAccepts_iff]
      exact fun accepts => Nat.not_le.mpr accepts.2 full
    rw [execReportFlush_of_admitted admitted, reportFlush, if_neg (by simpa using (sessionLive_iff s).mpr live),
      if_neg refuses, flushTrigger, trigger_refused _ refuses]
    rfl
  · rw [execReportFlush_of_admitted admitted, reportFlush, if_neg (by simpa using (sessionLive_iff s).mpr live),
      if_pos ((builderAccepts_iff s).mpr ⟨live, room⟩), hold, State.onAgent, flushTrigger, (trigger_keeps _ _).2.2.2.2.2.2.2.1]
  · have same : (flushTrigger s).agent = s.agent := by simp [flushTrigger]
    rw [execReportFlush_of_broadcast admitted,
      completeBroadcast_eq (by rw [same]; exact held_of_beginning admitted.begins), same]
    rfl

theorem execPartReset_of_admitted (admitted : Admitted .partReset c s) :
    exec .partReset s = .next (setPending none (completeAs true .ok [] s)) := by
  have row : exec .partReset s = execPartReset s := rfl
  rw [row, execPartReset, begins_of admitted.begins admitted.code]
  simp only [admitted.addressed, checked_of_admitted admitted]

theorem execPartReset_of_broadcast {n : Nat} {fate : CopyFate} (admitted : AdmittedBroadcast .partReset c n fate s) :
    exec .partReset s = .next (broadcastReset n fate s) := by
  have row : exec .partReset s = execPartReset s := rfl
  rw [row, execPartReset, begins_of admitted.begins admitted.code]
  simp only [admitted.broadcast]

theorem beginning_of_resetPending {r : ResetPending} (pending : s.agent.resetPending = some r) : beginning s = none := by
  unfold beginning
  split
  · next reset => rw [pending] at reset; cases reset
  · rfl

/-- Settles O49: the response of the addressed command by its room, and the broadcast by the fate of its copy. -/
theorem partResetWaitsForItsMoment : Obligations.PartResetWaitsForItsMoment := by
  refine fun c s => ⟨fun admitted => ⟨_, execPartReset_of_admitted admitted, beginning_of_resetPending rfl, ?_, fun room => ?_,
    fun full => ?_⟩, fun n admitted => ?_, fun n admitted => ?_, fun n admitted => ?_⟩
  · unfold completeAs
    split <;> rfl
  all_goals
    obtain ⟨held, -, -, rest, queue⟩ := beginning_iff.mp admitted.begins
  · simp only [completeAs, queue, formResponse, State.onAgent, setPending,
      if_pos (show s.agent.responses.length < Config.responsePlaces from room)]
  · simp only [completeAs, queue, formResponse, State.onAgent, setPending,
      if_neg (show ¬ s.agent.responses.length < Config.responsePlaces from Nat.not_lt.mpr full)]
  · rw [execPartReset_of_broadcast admitted, broadcastReset, completeBroadcast_eq held]
    rfl
  · rw [execPartReset_of_broadcast admitted, broadcastReset, completeBroadcast_eq held]
    rfl
  · exact ⟨_, execPartReset_of_broadcast admitted, fullReset_fullyReset .command s⟩

/-! ### PLAN_COMMIT up to its boundary (R50 to R53) -/

theorem word_eq_ofNat_iff {w : Word} {n : Nat} (small : n < 2 ^ 32) : w = BitVec.ofNat 32 n ↔ w.toNat = n := by
  rw [← BitVec.toNat_inj, BitVec.toNat_ofNat, Nat.mod_eq_of_lt small]

theorem ofBe_lt (l : List Byte) : ofBe l < 256 ^ l.length := by
  induction l with
  | nil => simp [ofBe]
  | cons b l ih =>
    rw [ofBe_cons, List.length_cons, Nat.pow_succ]
    have := b.isLt
    nlinarith [Nat.pow_pos (n := l.length) (show 0 < 256 by omega)]

theorem fieldAt_lt (l : List Byte) (o n : Nat) : fieldAt l o n < 256 ^ n :=
  (ofBe_lt _).trans_le (Nat.pow_le_pow_right (by omega) (List.length_take_le _ _))

/-- Settles O32: the phases of the command by validation and check, and the reasons' codes. -/
theorem planCommitChecksInPhases : Obligations.PlanCommitChecksInPhases := by
  refine ⟨fun c s admitted => ?_, by decide⟩
  intro plan expected
  have row : exec .planCommit s = .next (planCommit c.args s) := answered_of_admitted admitted _
  have same : planCheck plan = BitVec.ofNat 32 (fieldAt c.args 0 4) ↔ (planCheck plan).toNat = expected :=
    word_eq_ofNat_iff (fieldAt_lt c.args 0 4)
  refine ⟨fun reason n invalid => ?_, fun valid => ⟨fun other => ?_, fun equal => ?_⟩⟩
  · have invalid : planInvalid s.plan.shadow.contents = some (reason, n) := invalid
    simp only [row, planCommit, invalid, be_one]
  all_goals
    have valid : planInvalid s.plan.shadow.contents = none := valid
  · simp only [row, planCommit, valid]
    exact congrArg Host.Outcome.next (if_neg (same.not.mpr other))
  · simp only [row, planCommit, valid]
    exact congrArg Host.Outcome.next (if_pos (same.mpr equal))

end Sys2Proof.Machine
end


section
/-! PROOFS. What STATUS_READ, COUNTERS_READ and PLAN_READ answer, and the records that the loads replace (chapters 3 and 9). -/

namespace Sys2Proof.Machine

variable {s : State} {c : Command}

/-! ### Status and counters (R164, R165, R179) -/

/-- The 46 counters in the order of R179. -/
def countersOf (s : State) : List Word :=
  let port (k : PortCounters) : List Word := [k.received, k.runts, k.giants, k.checkErrors, k.abortedReceptions,
    k.forwardOverruns, k.transmitted, k.abortedTransmissions, k.linkDowns, k.breaks]
  let k := s.engine.counters
  port s.links.field.counters ++ port s.links.head.counters ++
    [s.sync.taken, s.sync.ignored, k.notMeteredPart, k.notMeteredMalformed, k.notMeteredNoSync, k.notMeteredEpoch,
      k.overruns, k.framesMetered, k.unmapped, s.plan.passes, s.builder.built, s.builder.emptyBuilt, s.builder.dropped,
      s.session.acksTaken, s.session.acksStale, s.session.acksStray, s.session.retransmitTimeouts,
      s.session.retransmissions, s.session.acknowledged, s.session.restored, s.agent.malformed, s.agent.overruns,
      s.agent.duplicates, s.agent.repeated, s.agent.broadcastsIgnored, s.events.lostCounter]

theorem counterOctets_eq (s : State) : counterOctets s = (countersOf s).flatMap fun w => be 4 w.toNat := by
  rw [countersOf, List.flatMap_append, List.flatMap_append]
  rfl

theorem length_flatMap_be (l : List Word) : (l.flatMap fun w => be 4 w.toNat).length = 4 * l.length := by
  induction l with
  | nil => rfl
  | cons w l ih => rw [List.flatMap_cons, List.length_append, ih, be_length, List.length_cons]; omega

theorem boolOf_of_zero {b : Byte} (zero : b.toNat = 0) : boolOf b = false := by
  rw [show b = 0 from BitVec.eq_of_toNat_eq zero]
  rfl

theorem boolOf_of_one {b : Byte} (one : b.toNat = 1) : boolOf b = true := by
  rw [show b = 1 from BitVec.eq_of_toNat_eq one]
  rfl

theorem length_countersOf (s : State) : (countersOf s).length = 46 := by simp [countersOf]

theorem execStatusRead_of_admitted (admitted : Admitted .statusRead c s) :
    exec .statusRead s = .next (complete .ok (statusResults s) s) := answered_of_admitted admitted _

theorem execCountersRead_of_admitted {clear : Byte} (admitted : Admitted .countersRead c s) (args : c.args = [clear]) :
    exec .countersRead s = .next (complete .ok (clear :: (countersOf s).flatMap fun w => be 4 w.toNat)
      (if boolOf clear then clearCounters s else s)) := by
  have row : exec .countersRead s = .next (countersRead c.args s) := answered_of_admitted admitted _
  rw [row, countersRead, args, counterOctets_eq]
  rfl

/-- Settles O46: the values and their codes as the rules list them. -/
theorem statusAndCountersAreRead : Obligations.StatusAndCountersAreRead := by
  unfold Obligations.StatusAndCountersAreRead
  refine ⟨fun c s admitted => ?_, fun clear c s admitted args => ?_, ?_, ?_, ?_, ?_, ⟨rfl, fun _ => rfl, fun _ _ => rfl⟩,
    ?_, ?_⟩
  · refine (execStatusRead_of_admitted admitted).trans (congrArg (fun r => Host.Outcome.next (complete .ok r s)) ?_)
    unfold statusResults Session.idValue selfCheckCode yesNo
    extract_lets p q
    have tap := tapOctet_eq p.tap
    have base : q.base = _ := base_eq q
    rw [tap, base]
  · intro port k counters results
    refine ⟨length_countersOf s, ?_, fun keep => ?_, fun clears => ?_⟩
    · rw [List.length_cons, length_flatMap_be, show counters.length = 46 from length_countersOf s]
    · rw [execCountersRead_of_admitted admitted args, boolOf_of_zero keep]
      rfl
    · rw [execCountersRead_of_admitted admitted args, boolOf_of_one clears]
      rfl
  all_goals decide

/-! ### PLAN_READ (R49) -/

theorem octets_of_bytes (a b : Byte) (l : List Byte) : be 1 a.toNat ++ be 1 b.toNat ++ l = a :: b :: l := by
  rw [be_one, be_one, BitVec.ofNat_toNat, BitVec.ofNat_toNat, BitVec.setWidth_eq, BitVec.setWidth_eq]
  rfl

theorem planReadFailure_header (start count : Nat) :
    planReadFailure 0 start count = if start ≠ 0 then some 2 else if count ≠ 1 then some 3 else none := by
  simp [planReadFailure]

theorem planReadFailure_streams (start : Byte) (count : Nat) :
    planReadFailure 1 start.toNat count = if count < 1 ∨ 32 < count then some 3 else none := by
  have small := start.isLt
  have inside : inRange 0 255 start.toNat = true := (inRange_iff _ _ _).mpr ⟨by omega, by omega⟩
  simp only [planReadFailure, inside, Bool.not_true, Bool.not_eq_true', inRange_fails_iff]
  rfl

theorem planReadFailure_circuits (start count : Nat) : planReadFailure 2 start count =
    if 96 ≤ start then some 2 else if count < 1 ∨ 8 < count ∨ 96 < start + count then some 3 else none := by
  have startFails : inRange 0 95 start = false ↔ 96 ≤ start := by rw [inRange_fails_iff]; omega
  simp only [planReadFailure, Bool.not_eq_true', startFails, Bool.and_eq_false_iff, inRange_fails_iff, decide_eq_false_iff_not,
    Nat.not_le, or_assoc]

theorem planReadFailure_references (start count : Nat) : planReadFailure 3 start count =
    if 16 ≤ start then some 2 else if count < 1 ∨ 16 < count ∨ 16 < start + count then some 3 else none := by
  have startFails : inRange 0 15 start = false ↔ 16 ≤ start := by rw [inRange_fails_iff]; omega
  simp only [planReadFailure, Bool.not_eq_true', startFails, Bool.and_eq_false_iff, inRange_fails_iff, decide_eq_false_iff_not,
    Nat.not_le, or_assoc]

/-- Settles O30: the section's checks and its results. -/
theorem planReadReadsTheNamedBank : Obligations.PlanReadReadsTheNamedBank := by
  intro bank section_ start count c s admitted args b answer refused
  have row : exec .planRead s = .next (planRead c.args s) := answered_of_admitted admitted _
  have bankEq : bankOf bank s.plan = b := if_congr BitVec.toNat_inj.symm rfl rfl
  have refuses {n : Nat} (fails : planReadFailure section_.toNat start.toNat count.toNat = some n) :
      exec .planRead s = refused (BitVec.ofNat 8 n) := by
    rw [row, planRead, args]
    show Host.Outcome.next (match planReadFailure section_.toNat start.toNat count.toNat with
      | some i => complete .badArgument (be 1 i) s
      | none => _) = _
    rw [fails]
    exact congrArg (fun results => Host.Outcome.next (complete .badArgument results s)) (be_one n)
  have answers (passes : planReadFailure section_.toNat start.toNat count.toNat = none) :
      exec .planRead s = answer (planReadResults b section_.toNat start.toNat count.toNat) := by
    rw [row, planRead, args]
    show Host.Outcome.next (match planReadFailure section_.toNat start.toNat count.toNat with
      | some i => _
      | none => complete .ok (planReadResults (bankOf bank s.plan) section_.toNat start.toNat count.toNat) s) = _
    rw [passes, bankEq]
  refine ⟨fun header => ?_, fun streams => ?_, fun circuits => ?_, fun references => ?_⟩
  · rw [header] at refuses answers
    rw [planReadFailure_header] at refuses answers
    refine ⟨fun zero one => answers (by simp [zero, one]), fun start' => refuses (if_pos start'), fun zero count' =>
      refuses (by simp [zero, count'])⟩
  · rw [streams] at refuses answers
    rw [planReadFailure_streams] at refuses answers
    exact ⟨fun low high => answers (if_neg (by omega)), fun out => refuses (if_pos out)⟩
  · rw [circuits] at refuses answers
    rw [planReadFailure_circuits] at refuses answers
    refine ⟨fun low high inside => ?_, fun start' => refuses (if_pos start'), fun inside out =>
      refuses (by rw [if_neg (by omega), if_pos out])⟩
    rw [answers (by rw [if_neg (by omega), if_neg (by omega)])]
    exact congrArg answer (octets_of_bytes start count _)
  · rw [references] at refuses answers
    rw [planReadFailure_references] at refuses answers
    refine ⟨fun low high inside => ?_, fun start' => refuses (if_pos start'), fun inside out =>
      refuses (by rw [if_neg (by omega), if_pos out])⟩
    rw [answers (by rw [if_neg (by omega), if_neg (by omega)])]
    exact congrArg answer (octets_of_bytes start count _)

end Sys2Proof.Machine
end


section
/-! PROOFS. CIRCUIT_LOAD and REFERENCE_LOAD: the first field out of range, and the record replaced whole (R47, R48, R166). -/

namespace Sys2Proof.Machine

variable {s : State} {c : Command}

/-! ### The layouts of R166 -/

/-- The arguments of CIRCUIT_LOAD, field by field (R166). -/
def circuitLayout (index enabled reference polarity divisor acceleration select floorEnable : Byte) (account : Word)
    (gain offset floorStep : Half) (quantum floorLimit : Wide) : List Byte :=
  [index, enabled] ++ be 4 account.toNat ++ [reference, polarity] ++ be 2 gain.toNat ++ be 2 offset.toNat ++
    be 6 quantum.toNat ++ [divisor, acceleration, select, floorEnable] ++ be 2 floorStep.toNat ++ be 6 floorLimit.toNat

/-- The arguments of REFERENCE_LOAD, field by field (R166). -/
def referenceLayout (index enabled censusEnable : Byte) (zeroOffset bandMin bandMax : Half) : List Byte :=
  [index, enabled, censusEnable] ++ be 2 zeroOffset.toNat ++ be 2 bandMin.toNat ++ be 2 bandMax.toNat

theorem half_lt (h : Half) : h.toNat % 256 ^ 2 = h.toNat := Nat.mod_eq_of_lt h.isLt

theorem word_lt (w : Word) : w.toNat % 256 ^ 4 = w.toNat := Nat.mod_eq_of_lt w.isLt

theorem wide_lt (w : Wide) : w.toNat % 256 ^ 6 = w.toNat := Nat.mod_eq_of_lt w.isLt

section
variable (index enabled reference polarity divisor acceleration select floorEnable : Byte) (account : Word)
  (gain offset floorStep : Half) (quantum floorLimit : Wide)

theorem circuitLayout_octets :
    let args := circuitLayout index enabled reference polarity divisor acceleration select floorEnable account gain offset
      floorStep quantum floorLimit
    (octetAt args 0 = index ∧ octetAt args 1 = enabled ∧ octetAt args 6 = reference ∧ octetAt args 7 = polarity) ∧
    octetAt args 18 = divisor ∧ octetAt args 19 = acceleration ∧ octetAt args 20 = select ∧ octetAt args 21 = floorEnable := by
  simp [circuitLayout, octetAt_append_right, octetAt_cons]

theorem circuitLayout_fields :
    let args := circuitLayout index enabled reference polarity divisor acceleration select floorEnable account gain offset
      floorStep quantum floorLimit
    (fieldAt args 2 4 = account.toNat ∧ fieldAt args 8 2 = gain.toNat ∧ fieldAt args 10 2 = offset.toNat) ∧
    fieldAt args 12 6 = quantum.toNat ∧ fieldAt args 22 2 = floorStep.toNat ∧ fieldAt args 24 6 = floorLimit.toNat := by
  simp only [circuitLayout, List.append_assoc, List.cons_append, List.nil_append, fieldAt_append_right, fieldAt_cons,
    fieldAt_be_append, fieldAt_be, be_length, le_refl, Nat.reduceLeDiff, Nat.reduceSub, Nat.sub_self, half_lt, word_lt,
    wide_lt, and_self]

/-- The first field of CIRCUIT_LOAD out of range, by the fields (R47). -/
theorem circuitLoadFailure_layout :
    circuitLoadFailure (circuitLayout index enabled reference polarity divisor acceleration select floorEnable account gain
      offset floorStep quantum floorLimit) =
      if 95 < index.toNat then some 0
      else if 1 < enabled.toNat then some 1
      else if 15 < reference.toNat then some 3
      else if 1 < polarity.toNat then some 4
      else if quantum.toNat = 0 ∨ 1099511627776 < quantum.toNat then some 7
      else if divisor.toNat = 0 ∨ 16 < divisor.toNat then some 8
      else if acceleration.toNat ∉ [1, 4, 8, 16] then some 9
      else if 2 < select.toNat then some 10
      else if 1 < floorEnable.toNat then some 11
      else if floorStep.toNat = 0 then some 12
      else if floorLimit.toNat = 0 ∨ 1099511627776 < floorLimit.toNat then some 13
      else none := by
  obtain ⟨⟨o0, o1, o6, o7⟩, o18, o19, o20, o21⟩ := circuitLayout_octets index enabled reference polarity divisor acceleration
    select floorEnable account gain offset floorStep quantum floorLimit
  obtain ⟨-, f12, f22, f24⟩ := circuitLayout_fields index enabled reference polarity divisor acceleration select floorEnable
    account gain offset floorStep quantum floorLimit
  have limited (w : Wide) : inRange 1 quantumMax w.toNat = false ↔ w.toNat = 0 ∨ 1099511627776 < w.toNat := by
    rw [inRange_fails_iff, Nat.lt_one_iff]
    rfl
  have divides : inRange 1 16 divisor.toNat = false ↔ divisor.toNat = 0 ∨ 16 < divisor.toNat := by
    rw [inRange_fails_iff, Nat.lt_one_iff]
  have accelerates : decide (acceleration.toNat ∈ [1, 4, 8, 16]) = false ↔ acceleration.toNat ∉ [1, 4, 8, 16] :=
    decide_eq_false_iff_not
  have steps : inRange 1 65535 floorStep.toNat = false ↔ floorStep.toNat = 0 := by
    have := floorStep.isLt
    rw [inRange_fails_iff]
    omega
  rw [circuitLoadFailure, o0, o1, o6, o7, o18, o19, o20, o21, f12, f22, f24, firstFailing_eq_from,
    firstFailingFrom_cons (codeOk_fails_iff index 96), firstFailingFrom_cons (yesNoOk_fails_iff enabled),
    firstFailingFrom_pass, firstFailingFrom_cons (codeOk_fails_iff reference 16),
    firstFailingFrom_cons (codeOk_fails_iff polarity 2), firstFailingFrom_pass, firstFailingFrom_pass,
    firstFailingFrom_cons (limited quantum), firstFailingFrom_cons divides, firstFailingFrom_cons accelerates,
    firstFailingFrom_cons (codeOk_fails_iff select 3), firstFailingFrom_cons (yesNoOk_fails_iff floorEnable),
    firstFailingFrom_cons steps, firstFailingFrom_cons (limited floorLimit)]
  rfl

end

section
variable (index enabled censusEnable : Byte) (zeroOffset bandMin bandMax : Half)

theorem referenceLayout_reads :
    let args := referenceLayout index enabled censusEnable zeroOffset bandMin bandMax
    (octetAt args 0 = index ∧ octetAt args 1 = enabled ∧ octetAt args 2 = censusEnable) ∧
    fieldAt args 3 2 = zeroOffset.toNat ∧ fieldAt args 5 2 = bandMin.toNat ∧ fieldAt args 7 2 = bandMax.toNat := by
  refine ⟨by simp [referenceLayout, octetAt_cons], ?_⟩
  simp only [referenceLayout, List.append_assoc, List.cons_append, List.nil_append, fieldAt_append_right, fieldAt_cons,
    fieldAt_be_append, fieldAt_be, be_length, le_refl, Nat.reduceLeDiff, Nat.reduceSub, Nat.sub_self, half_lt, and_self]

/-- The first field of REFERENCE_LOAD out of range, by the fields: a band in the wrong order against its maximum (R48). -/
theorem referenceLoadFailure_layout :
    referenceLoadFailure (referenceLayout index enabled censusEnable zeroOffset bandMin bandMax) =
      if 15 < index.toNat then some 0
      else if 1 < enabled.toNat then some 1
      else if 1 < censusEnable.toNat then some 2
      else if bandMin.toNat < 8 ∨ 4095 < bandMin.toNat then some 4
      else if bandMax.toNat < 8 ∨ 4095 < bandMax.toNat ∨ bandMax.toNat < bandMin.toNat then some 5
      else none := by
  obtain ⟨⟨o0, o1, o2⟩, -, f5, f7⟩ := referenceLayout_reads index enabled censusEnable zeroOffset bandMin bandMax
  have band : (inRange 8 4095 bandMax.toNat && decide (bandMin.toNat ≤ bandMax.toNat)) = false ↔
      bandMax.toNat < 8 ∨ 4095 < bandMax.toNat ∨ bandMax.toNat < bandMin.toNat := by
    rw [Bool.and_eq_false_iff, inRange_fails_iff, decide_eq_false_iff_not, Nat.not_le, or_assoc]
  rw [referenceLoadFailure, o0, o1, o2, f5, f7, firstFailing_eq_from,
    firstFailingFrom_cons (codeOk_fails_iff index 16), firstFailingFrom_cons (yesNoOk_fails_iff enabled),
    firstFailingFrom_cons (yesNoOk_fails_iff censusEnable), firstFailingFrom_pass,
    firstFailingFrom_cons (inRange_fails_iff 8 4095 bandMin.toNat), firstFailingFrom_cons band]
  rfl

end

/-! ### The records that the arguments hold -/

theorem boolOf_yesNo (b : Bool) : boolOf (yesNo b) = b := by cases b <;> rfl

theorem yesNo_small (b : Bool) : (yesNo b).toNat ≤ 1 := by cases b <;> decide

theorem polarityCode_small (p : Polarity) : (polarityCode p).toNat ≤ 1 := by cases p <;> decide

theorem selectCode_small (x : Select) : (selectCode x).toNat ≤ 2 := by cases x <;> decide

theorem toNat_ofNat_fin {n : Nat} (small : n ≤ 256) (i : Fin n) : (BitVec.ofNat 8 i.val).toNat = i.val := by
  rw [BitVec.toNat_ofNat]
  omega

/-- The octets of a circuit record, behind its index, are the arguments of CIRCUIT_LOAD. -/
theorem circuitOctets_layout (i : Fin 96) (r : CircuitRecord) : BitVec.ofNat 8 i.val :: circuitOctets r =
    circuitLayout (BitVec.ofNat 8 i.val) (yesNo r.enabled) (BitVec.ofNat 8 r.reference.val) (polarityCode r.polarity)
      r.divisor r.acceleration (selectCode r.select) (yesNo r.floorEnable) r.account r.gain r.offset r.floorStep r.quantum
      r.floorLimit := rfl

theorem refOctets_layout (i : Fin 16) (r : RefRecord) : BitVec.ofNat 8 i.val :: refOctets r =
    referenceLayout (BitVec.ofNat 8 i.val) (yesNo r.enabled) (yesNo r.censusEnable) r.zeroOffset r.bandMin r.bandMax := rfl

theorem fin_of_octet {n : Nat} [NeZero n] (small : n ≤ 256) (i : Fin n) : Fin.ofNat n (BitVec.ofNat 8 i.val).toNat = i := by
  rw [toNat_ofNat_fin small]
  exact Fin.ext (Nat.mod_eq_of_lt i.isLt)

/-- The record read from the arguments is the record they were written from (R47, R166). -/
theorem circuitRecordOf_octets (i : Fin 96) (r : CircuitRecord) :
    circuitRecordOf (BitVec.ofNat 8 i.val :: circuitOctets r) = r := by
  rw [circuitOctets_layout]
  obtain ⟨⟨-, o1, o6, o7⟩, o18, o19, o20, o21⟩ := circuitLayout_octets (BitVec.ofNat 8 i.val) (yesNo r.enabled)
    (BitVec.ofNat 8 r.reference.val) (polarityCode r.polarity) r.divisor r.acceleration (selectCode r.select)
    (yesNo r.floorEnable) r.account r.gain r.offset r.floorStep r.quantum r.floorLimit
  obtain ⟨⟨f2, f8, f10⟩, f12, f22, f24⟩ := circuitLayout_fields (BitVec.ofNat 8 i.val) (yesNo r.enabled)
    (BitVec.ofNat 8 r.reference.val) (polarityCode r.polarity) r.divisor r.acceleration (selectCode r.select)
    (yesNo r.floorEnable) r.account r.gain r.offset r.floorStep r.quantum r.floorLimit
  have polarity : (if polarityCode r.polarity = 0 then Polarity.normal else .inverted) = r.polarity := by
    cases r.polarity <;> rfl
  have select : (if selectCode r.select = 0 then Select.imp else if selectCode r.select = 1 then .exp else .both) =
      r.select := by cases r.select <;> rfl
  rw [circuitRecordOf, o1, o6, o7, o18, o19, o20, o21, f2, f8, f10, f12, f22, f24, polarity, select, boolOf_yesNo,
    boolOf_yesNo, fin_of_octet (by omega)]
  simp only [BitVec.ofNat_toNat, BitVec.setWidth_eq]

theorem refRecordOf_octets (i : Fin 16) (r : RefRecord) : refRecordOf (BitVec.ofNat 8 i.val :: refOctets r) = r := by
  rw [refOctets_layout]
  obtain ⟨⟨-, o1, o2⟩, f3, f5, f7⟩ := referenceLayout_reads (BitVec.ofNat 8 i.val) (yesNo r.enabled) (yesNo r.censusEnable)
    r.zeroOffset r.bandMin r.bandMax
  rw [refRecordOf, o1, o2, f3, f5, f7, boolOf_yesNo, boolOf_yesNo]
  simp only [BitVec.ofNat_toNat, BitVec.setWidth_eq]

/-! ### The commands -/

theorem execCircuitLoad_of_failure {n : Nat} (admitted : Admitted .circuitLoad c s) (fails : circuitLoadFailure c.args = some n) :
    exec .circuitLoad s = .next (complete .badArgument (be 1 n) s) := by
  have row : exec .circuitLoad s = .next (circuitLoad c.args s) := answered_of_admitted admitted _
  rw [row, circuitLoad, fails]

theorem execReferenceLoad_of_failure {n : Nat} (admitted : Admitted .referenceLoad c s)
    (fails : referenceLoadFailure c.args = some n) :
    exec .referenceLoad s = .next (complete .badArgument (be 1 n) s) := by
  have row : exec .referenceLoad s = .next (referenceLoad c.args s) := answered_of_admitted admitted _
  rw [row, referenceLoad, fails]

/-- An index of 96 or more is the first field out of range. -/
theorem circuitLoadFailure_of_index {args : List Byte} {i : Byte} (head : args.head? = some i) (large : 96 ≤ i.toNat) :
    circuitLoadFailure args = some 0 := by
  obtain ⟨rest, rfl⟩ := List.head?_eq_some_iff.mp head
  rw [circuitLoadFailure, octetAt_cons_zero, (codeOk_fails_iff i 96).mpr large]
  rfl

/-- A record in range passes every check (R47). -/
theorem circuitLoadFailure_octets (i : Fin 96) (r : CircuitRecord) : circuitLoadFailure (BitVec.ofNat 8 i.val :: circuitOctets r) =
    if r.quantum.toNat = 0 ∨ 1099511627776 < r.quantum.toNat then some 7
    else if r.divisor.toNat = 0 ∨ 16 < r.divisor.toNat then some 8
    else if r.acceleration.toNat ∉ [1, 4, 8, 16] then some 9
    else if r.floorStep.toNat = 0 then some 12
    else if r.floorLimit.toNat = 0 ∨ 1099511627776 < r.floorLimit.toNat then some 13
    else none := by
  have index : ¬ 95 < (BitVec.ofNat 8 i.val).toNat := by rw [toNat_ofNat_fin (by omega)]; omega
  have reference : ¬ 15 < (BitVec.ofNat 8 r.reference.val).toNat := by rw [toNat_ofNat_fin (by omega)]; omega
  rw [circuitOctets_layout, circuitLoadFailure_layout, if_neg index, if_neg (Nat.not_lt.mpr (yesNo_small _)),
    if_neg reference, if_neg (Nat.not_lt.mpr (polarityCode_small _)), if_neg (Nat.not_lt.mpr (selectCode_small _)),
    if_neg (Nat.not_lt.mpr (yesNo_small _))]

theorem referenceLoadFailure_octets (i : Fin 16) (r : RefRecord) : referenceLoadFailure (BitVec.ofNat 8 i.val :: refOctets r) =
    if r.bandMin.toNat < 8 ∨ 4095 < r.bandMin.toNat then some 4
    else if r.bandMax.toNat < 8 ∨ 4095 < r.bandMax.toNat ∨ r.bandMax.toNat < r.bandMin.toNat then some 5
    else none := by
  have index : ¬ 15 < (BitVec.ofNat 8 i.val).toNat := by rw [toNat_ofNat_fin (by omega)]; omega
  rw [refOctets_layout, referenceLoadFailure_layout, if_neg index, if_neg (Nat.not_lt.mpr (yesNo_small _)),
    if_neg (Nat.not_lt.mpr (yesNo_small _))]

/-- Settles O29: the checks by the fields of the layouts, and the records read back. -/
theorem recordsAreLoadedWhole : Obligations.RecordsAreLoadedWhole := by
  refine ⟨circuitLoadFailure_layout, referenceLoadFailure_layout, fun c s => ⟨fun admitted => ⟨fun i r args => ⟨?_, ?_⟩,
    fun n => execCircuitLoad_of_failure admitted, fun i head large => ?_⟩, fun admitted => ⟨fun i r args low high => ⟨?_, ?_⟩,
    fun n => execReferenceLoad_of_failure admitted⟩⟩⟩
  · rintro ⟨q1, q2, d1, d2, accelerates, st, l1, l2⟩
    have passes : circuitLoadFailure c.args = none := by
      rw [args, circuitLoadFailure_octets, if_neg (by omega), if_neg (by omega), if_neg (not_not.mpr accelerates),
        if_neg (by omega), if_neg (by omega)]
    have row : exec .circuitLoad s = .next (circuitLoad c.args s) := answered_of_admitted admitted _
    rw [row, circuitLoad, passes, args, circuitRecordOf_octets, octetAt_cons_zero, toNat_ofNat_fin (by omega)]
    rfl
  · intro out
    exact execCircuitLoad_of_failure admitted (by rw [args, circuitLoadFailure_octets, if_pos out])
  · exact execCircuitLoad_of_failure admitted (circuitLoadFailure_of_index head large)
  · intro ordered top
    have passes : referenceLoadFailure c.args = none := by
      rw [args, referenceLoadFailure_octets, if_neg (by omega), if_neg (by omega)]
    have row : exec .referenceLoad s = .next (referenceLoad c.args s) := answered_of_admitted admitted _
    rw [row, referenceLoad, passes, args, refRecordOf_octets, octetAt_cons_zero, toNat_ofNat_fin (by omega)]
    rfl
  · intro out
    exact execReferenceLoad_of_failure admitted (by
      rw [args, referenceLoadFailure_octets, if_neg (by omega), if_pos (by omega)])

end Sys2Proof.Machine
end


section
/-! PROOFS. STREAM_LOAD and STREAM_REMOVE: applied whole, or refused at the first failing position (R45, R46). -/

namespace Sys2Proof.Machine

variable {s : State} {c : Command}

/-! ### List arguments (R166) -/

theorem toNat_ofNat_count {n : Nat} (small : n ≤ 8) : (BitVec.ofNat 8 n).toNat = n := by
  rw [BitVec.toNat_ofNat]
  omega

theorem items_eq_map {α : Type} (f : α → List Byte) {w : Nat} (width : ∀ a, (f a).length = w) (l : List α) :
    ((List.range l.length).map fun i => ((l.flatMap f).drop (w * i)).take w) = l.map f := by
  induction l with
  | nil => rfl
  | cons a l ih =>
    rw [List.length_cons, List.range_succ_eq_map, List.map_cons, List.flatMap_cons, List.map_map, List.map_cons, Nat.mul_zero,
      List.drop_zero, List.take_left' (width a), ← ih]
    refine congrArg _ (List.map_congr_left fun i _ => ?_)
    rw [Function.comp_apply, Nat.mul_succ, Nat.add_comm, ← List.drop_drop, List.drop_left' (width a)]

/-- The items of a list argument are what it was written from. -/
theorem items_of_list {α : Type} (f : α → List Byte) {w : Nat} (width : ∀ a, (f a).length = w) {l : List α}
    (small : l.length ≤ 8) : items (BitVec.ofNat 8 l.length :: l.flatMap f) w = l.map f := by
  rw [items, countArg, octetAt_cons_zero, toNat_ofNat_count small, ← items_eq_map f width]
  refine List.map_congr_left fun i _ => ?_
  rw [Nat.add_comm, List.drop_succ_cons]

theorem firstFailing_at {α : Type} {f : α → Bool} {before after : List α} {a : α} (passes : ∀ x ∈ before, f x = true)
    (fails : f a = false) : firstFailing ((before ++ a :: after).map f) = some before.length := by
  induction before with
  | nil => simp [firstFailing_cons, fails]
  | cons x before ih =>
    rw [List.forall_mem_cons] at passes
    rw [List.cons_append, List.map_cons, firstFailing_cons, if_pos passes.1, ih passes.2]
    rfl

theorem firstFailing_none {α : Type} {f : α → Bool} {l : List α} (passes : ∀ x ∈ l, f x = true) :
    firstFailing (l.map f) = none := by
  induction l with
  | nil => rfl
  | cons x l ih =>
    rw [List.forall_mem_cons] at passes
    rw [List.map_cons, firstFailing_cons, if_pos passes.1, ih passes.2]
    rfl

/-- The first position whose key an earlier one has (R45). -/
theorem firstRepeat_at {seen before after : List Nat} {k : Nat} (n : Nat) (distinct : before.Nodup)
    (fresh : ∀ j ∈ before, j ∉ seen) (repeats : k ∈ seen ∨ k ∈ before) :
    firstRepeat seen n (before ++ k :: after) = some (n + before.length) := by
  induction before generalizing seen n with
  | nil =>
    rw [List.nil_append, firstRepeat, if_pos (by simpa using repeats)]
    rfl
  | cons j before ih =>
    rw [List.nodup_cons] at distinct
    rw [List.forall_mem_cons] at fresh
    rw [List.cons_append, firstRepeat, if_neg fresh.1, ih (n + 1) distinct.2, List.length_cons]
    · congr 1
      omega
    · intro i hi hs
      obtain rfl | hs := List.mem_cons.mp hs
      · exact distinct.1 hi
      · exact fresh.2 i hi hs
    · simp only [List.mem_cons] at repeats ⊢
      tauto

/-! ### Entries and keys as the arguments write them (R197, R198) -/

theorem keyOk_iff (l : List Byte) : keyOk l = true ↔ (octetAt l 0).toNat < 255 ∧ (octetAt l 1).toNat < 8 := by
  rw [keyOk, Bool.and_eq_true, codeOk_iff, codeOk_iff]

theorem targetOk_iff (l : List Byte) : targetOk l = true ↔ (octetAt l 2).toNat ≤ 2 ∧
    ((octetAt l 2).toNat = 0 → (octetAt l 3).toNat < 16) ∧ ((octetAt l 2).toNat = 1 → (octetAt l 3).toNat < 96) := by
  unfold targetOk
  generalize (octetAt l 2).toNat = role
  match role with
  | 0 => simp [codeOk_iff]
  | 1 => simp [codeOk_iff]
  | 2 => simp
  | _ + 3 => simp

theorem streamOctets_ok (e : StreamEntry) : (keyOk (streamOctets e) && targetOk (streamOctets e)) = true := by
  rw [Bool.and_eq_true, keyOk_iff, targetOk_iff]
  obtain ⟨node, channel, target⟩ := e
  have hn := node.isLt
  have hc := channel.isLt
  have key : (octetAt (streamOctets ⟨node, channel, target⟩) 0).toNat < 255 ∧
      (octetAt (streamOctets ⟨node, channel, target⟩) 1).toNat < 8 := by
    simp only [streamOctets, octetAt_cons_zero, octetAt_cons, le_refl, Nat.sub_self]
    rw [toNat_ofNat_fin (by omega), toNat_ofNat_fin (by omega)]
    exact ⟨hn, hc⟩
  refine ⟨key, ?_⟩
  cases target with
  | voltage r =>
    have := r.isLt
    simp [streamOctets, octetAt]
    omega
  | current i =>
    have := i.isLt
    simp [streamOctets, octetAt]
    omega
  | ignore => simp [streamOctets, octetAt]

theorem streamEntryOf_octets (e : StreamEntry) : streamEntryOf (streamOctets e) = e := by
  obtain ⟨node, channel, target⟩ := e
  have node' : Fin.ofNat 255 (BitVec.ofNat 8 node.val).toNat = node := fin_of_octet (by omega) node
  have channel' : Fin.ofNat 8 (BitVec.ofNat 8 channel.val).toNat = channel := fin_of_octet (by omega) channel
  have target' : targetOf (streamOctets ⟨node, channel, target⟩) = target := by
    cases target with
    | voltage r => exact congrArg Target.voltage (fin_of_octet (by omega) r)
    | current i => exact congrArg Target.current (fin_of_octet (by omega) i)
    | ignore => rfl
  rw [streamEntryOf, target']
  exact congrArg₂ (fun n k => StreamEntry.mk n k target) node' channel'

theorem itemKey_octets (k : Fin 255 × Fin 8) :
    itemKey [BitVec.ofNat 8 k.1.val, BitVec.ofNat 8 k.2.val] = streamKey k.1 k.2 := by
  show streamKey (Fin.ofNat 255 (BitVec.ofNat 8 k.1.val).toNat) (Fin.ofNat 8 (BitVec.ofNat 8 k.2.val).toNat) = _
  rw [fin_of_octet (by omega), fin_of_octet (by omega)]

/-- A key names one node and channel (R38). -/
theorem streamKey_inj {n m : Fin 255} {a b : Fin 8} : streamKey n a = streamKey m b ↔ n = m ∧ a = b := by
  have ha := a.isLt
  have hb := b.isLt
  rw [streamKey, streamKey, Fin.ext_iff, Fin.ext_iff]
  omega

theorem entryKey_eq_streamKey_iff (e : StreamEntry) (k : Fin 255 × Fin 8) :
    entryKey e = streamKey k.1 k.2 ↔ e.node = k.1 ∧ e.channel = k.2 := streamKey_inj

/-! ### STREAM_LOAD (R45) -/

theorem execStreamLoad_of_range {n : Nat} (admitted : Admitted .streamLoad c s)
    (fails : firstFailing ((items c.args 4).map fun e => keyOk e && targetOk e) = some n) :
    exec .streamLoad s = .next (complete .badArgument [BitVec.ofNat 8 n] s) := by
  have row : exec .streamLoad s = .next (streamLoad c.args s) := answered_of_admitted admitted _
  simp only [row, streamLoad, fails, be_one]

section
variable {es : List StreamEntry}

/-- The items of STREAM_LOAD's arguments, when they write entries. -/
theorem items_of_entries (args : c.args = BitVec.ofNat 8 es.length :: es.flatMap streamOctets) (small : es.length ≤ 8) :
    items c.args 4 = es.map streamOctets := by rw [args, items_of_list _ streamOctets_length small]

variable (admitted : Admitted .streamLoad c s) (args : c.args = BitVec.ofNat 8 es.length :: es.flatMap streamOctets)
  (small : es.length ≤ 8)
include admitted args small

theorem entries_pass : exec .streamLoad s = .next (streamLoad c.args s) ∧
    firstFailing ((items c.args 4).map fun e => keyOk e && targetOk e) = none ∧ (items c.args 4).map streamEntryOf = es := by
  refine ⟨answered_of_admitted admitted _, ?_, ?_⟩
  · rw [items_of_entries args small]
    exact firstFailing_none (by simpa using fun e _ => streamOctets_ok e)
  · rw [items_of_entries args small, List.map_map]
    exact (List.map_congr_left fun e _ => streamEntryOf_octets e).trans (List.map_id es)

theorem execStreamLoad_of_repeat {n : Nat} (repeats : firstRepeat [] 0 (es.map entryKey) = some n) :
    exec .streamLoad s = .next (complete .badArgument [BitVec.ofNat 8 n] s) := by
  obtain ⟨row, passes, entries⟩ := entries_pass admitted args small
  simp only [row, streamLoad, passes, entries, repeats, be_one]

theorem execStreamLoad_of_distinct (distinct : (es.map entryKey).Nodup) : exec .streamLoad s =
    if 256 < s.plan.shadow.contents.streams.length + newKeys es s.plan.shadow.contents.streams then
      .next (complete .tableFull (shadowHeld s) s)
    else .next (complete .ok (be 2 (insertAll es s.plan.shadow.contents.streams).length)
      (onShadow (fun p => { p with streams := insertAll es p.streams }) s)) := by
  obtain ⟨row, passes, entries⟩ := entries_pass admitted args small
  have repeats : firstRepeat [] 0 (es.map entryKey) = none := (firstRepeat_eq_none_iff _ _ _).mpr ⟨distinct, by simp⟩
  simp only [row, streamLoad, passes, entries, repeats]
  exact apply_ite Host.Outcome.next _ _ _

end

/-- The entries whose key the list does not hold are the new ones (R45). -/
theorem newKeys_eq (es held : List StreamEntry) :
    newKeys es held = (es.filter fun e => !held.any fun x => entryKey x == entryKey e).length := by
  rw [newKeys]
  congr 1
  refine List.filter_congr fun e _ => ?_
  rw [Bool.eq_iff_iff, lookupStream_isNone_iff]
  simp [HasKey]

/-! ### STREAM_REMOVE (R46) -/

theorem execStreamRemove_of_range {n : Nat} (admitted : Admitted .streamRemove c s)
    (fails : firstFailing ((items c.args 2).map keyOk) = some n) :
    exec .streamRemove s = .next (complete .badArgument [BitVec.ofNat 8 n] s) := by
  have row : exec .streamRemove s = .next (streamRemove c.args s) := answered_of_admitted admitted _
  simp only [row, streamRemove, fails, be_one]

section
variable {ks : List (Fin 255 × Fin 8)} (admitted : Admitted .streamRemove c s)
  (args : c.args = BitVec.ofNat 8 ks.length :: ks.flatMap fun k => [BitVec.ofNat 8 k.1.val, BitVec.ofNat 8 k.2.val])
  (small : ks.length ≤ 8)
include admitted args small

theorem keys_pass : exec .streamRemove s = .next (streamRemove c.args s) ∧
    firstFailing ((items c.args 2).map keyOk) = none ∧ (items c.args 2).map itemKey = ks.map fun k => streamKey k.1 k.2 := by
  have keys : items c.args 2 = ks.map fun k => [BitVec.ofNat 8 k.1.val, BitVec.ofNat 8 k.2.val] := by
    rw [args]
    exact items_of_list (fun k : Fin 255 × Fin 8 => [BitVec.ofNat 8 k.1.val, BitVec.ofNat 8 k.2.val]) (fun _ => rfl) small
  refine ⟨answered_of_admitted admitted _, ?_, ?_⟩
  · rw [keys]
    refine firstFailing_none fun l hl => ?_
    obtain ⟨k, -, rfl⟩ := List.mem_map.mp hl
    rw [keyOk_iff, octetAt_cons_zero, octetAt_cons le_rfl, Nat.sub_self, octetAt_cons_zero, toNat_ofNat_fin (by omega),
      toNat_ofNat_fin (by omega)]
    exact ⟨k.1.isLt, k.2.isLt⟩
  · rw [keys, List.map_map]
    exact List.map_congr_left fun k _ => itemKey_octets k

theorem execStreamRemove_of_absent {n : Nat} (absent : firstFailing (ks.map fun k =>
      (lookupStream s.plan.shadow.contents.streams (streamKey k.1 k.2)).isSome) = some n) :
    exec .streamRemove s = .next (complete .notFound [BitVec.ofNat 8 n] s) := by
  obtain ⟨row, passes, keys⟩ := keys_pass admitted args small
  have absent : firstFailing ((ks.map fun k => streamKey k.1 k.2).map fun k =>
      (lookupStream s.plan.shadow.contents.streams k).isSome) = some n := by
    rw [List.map_map]
    exact absent
  simp only [row, streamRemove, passes, keys, absent, be_one]

theorem execStreamRemove_of_present (present : firstFailing (ks.map fun k =>
      (lookupStream s.plan.shadow.contents.streams (streamKey k.1 k.2)).isSome) = none) :
    exec .streamRemove s = .next (complete .ok
      (be 2 (removeStreams (ks.map fun k => streamKey k.1 k.2) s.plan.shadow.contents.streams).length)
      (onShadow (fun p => { p with streams := removeStreams (ks.map fun k => streamKey k.1 k.2) p.streams }) s)) := by
  obtain ⟨row, passes, keys⟩ := keys_pass admitted args small
  have present : firstFailing ((ks.map fun k => streamKey k.1 k.2).map fun k =>
      (lookupStream s.plan.shadow.contents.streams k).isSome) = none := by
    rw [List.map_map]
    exact present
  simp only [row, streamRemove, passes, keys, present]
  rfl

end

/-- Exactly the entries whose node and channel are named go (R46). -/
theorem removeStreams_eq (ks : List (Fin 255 × Fin 8)) (held : List StreamEntry) :
    removeStreams (ks.map fun k => streamKey k.1 k.2) held = held.filter fun e => !ks.contains (e.node, e.channel) := by
  refine List.filter_congr fun e _ => ?_
  rw [Bool.eq_iff_iff, Bool.not_eq_true', Bool.not_eq_true', Bool.eq_false_iff, Bool.eq_false_iff, ne_eq, ne_eq,
    List.contains_iff_mem, List.contains_iff_mem, List.mem_map]
  refine not_congr ⟨fun ⟨k, hk, same⟩ => ?_, fun hk => ⟨_, hk, rfl⟩⟩
  obtain ⟨node, channel⟩ := streamKey_inj.mp same
  rwa [← node, ← channel]

/-- Settles O28: the items read back, then the checks of each command at their first failing position. -/
theorem streamCommandsApplyAllOrNothing : Obligations.StreamCommandsApplyAllOrNothing := by
  refine ⟨?_, ?_, ?_, ?_⟩
  · intro es c s admitted some small args outOfRange before e after split passes fails
    have check (x : Byte × Byte × Byte × Byte) :
        (keyOk [x.1, x.2.1, x.2.2.1, x.2.2.2] && targetOk [x.1, x.2.1, x.2.2.1, x.2.2.2]) = true ↔ ¬ outOfRange x := by
      rw [Bool.and_eq_true, keyOk_iff, targetOk_iff]
      simp only [octetAt, List.getD_cons_succ, List.getD_cons_zero, outOfRange]
      omega
    refine execStreamLoad_of_range admitted ?_
    rw [args, items_of_list (fun x : Byte × Byte × Byte × Byte => [x.1, x.2.1, x.2.2.1, x.2.2.2]) (fun _ => rfl) small, split,
      List.map_map]
    exact firstFailing_at (fun x hx => (check x).mpr (passes x hx)) (Bool.eq_false_iff.mpr ((check e).not.mpr (not_not.mpr fails)))
  · intro ks c s admitted some small args outOfRange before k after split passes fails
    have check (x : Byte × Byte) : keyOk [x.1, x.2] = true ↔ ¬ outOfRange x := by
      rw [keyOk_iff]
      simp only [octetAt, List.getD_cons_succ, List.getD_cons_zero, outOfRange]
      omega
    refine execStreamRemove_of_range admitted ?_
    rw [args, items_of_list (fun x : Byte × Byte => [x.1, x.2]) (fun _ => rfl) small, split, List.map_map]
    exact firstFailing_at (fun x hx => (check x).mpr (passes x hx)) (Bool.eq_false_iff.mpr ((check k).not.mpr (not_not.mpr fails)))
  · intro es c s admitted some small args held fresh
    have count : newKeys es held = fresh.length := newKeys_eq es held
    refine ⟨fun before e after split distinct repeats => ?_, fun distinct => ⟨fun full => ?_, fun fits ascends => ?_⟩⟩
    · refine execStreamLoad_of_repeat admitted args small ?_
      rw [split, List.map_append, List.map_cons, firstRepeat_at 0 distinct (by simp) (.inr repeats), List.length_map,
        Nat.zero_add]
    · rw [execStreamLoad_of_distinct admitted args small distinct, if_pos (by rw [count]; exact full)]
      rfl
    · refine ⟨insertAll es held, ?_, keysAscend_insertAll es ascends, ?_, mem_insertAll distinct ascends⟩
      · rw [execStreamLoad_of_distinct admitted args small distinct, if_neg (by rw [count]; exact Nat.not_lt.mpr fits)]
        rfl
      · rw [length_insertAll distinct ascends, count]
  · intro ks c s admitted some small args held present list
    have found (k : Fin 255 × Fin 8) : (lookupStream held (streamKey k.1 k.2)).isSome = true ↔ present k := by
      rw [lookupStream_isSome_iff]
      simp only [HasKey, entryKey_eq_streamKey_iff, present]
    refine ⟨fun all => ?_, fun before k after split before' absent => ?_⟩
    · rw [execStreamRemove_of_present admitted args small (firstFailing_none fun k hk => (found k).mpr (all k hk)),
        removeStreams_eq]
      simp only [onShadow, removeStreams_eq]
      rfl
    · refine execStreamRemove_of_absent admitted args small ?_
      rw [split]
      exact firstFailing_at (fun x hx => (found x).mpr (before' x hx)) (Bool.eq_false_iff.mpr ((found k).not.mpr absent))

end Sys2Proof.Machine
end


section
/-! PROOFS. A posting is discarded, coalesces, joins or is lost (R172 to R174); the validation of a plan (R51). -/

namespace Sys2Proof.Machine

/-! ### Postings (R172 to R174) -/

theorem takesIn_iff (p : PartState) :
    takesIn p = true ↔ p = .defect ∨ p = .idle ∨ p = .metering ∨ p = .faulted := by
  cases p <;> simp [takesIn]

theorem maskPasses_iff (mask : Word) (k : EventKind) :
    maskPasses mask k = true ↔ k = .started ∨ k = .planFault ∨ mask.getLsbD (eventCode k) = true := by
  cases k <;> simp [maskPasses]

theorem matchesPosting_iff (k : EventKind) (subject : Half) (r : EventRecord) :
    matchesPosting k subject r = true ↔ r.kind = k ∧ r.subject = subject ∧ r.carried = false := by
  simp [matchesPosting, and_assoc]

section Posting

variable {k : EventKind} {subject : Half} {value : Word} {p : PartController} {e : Events}

theorem posted_eq_self (out : ¬ (takesIn p.state = true ∧ maskPasses e.mask k = true)) :
    posted k subject value p e = e := by
  rw [posted, if_neg (by simpa using out)]

variable (takes : takesIn p.state = true) (passes : maskPasses e.mask k = true)
include takes passes

theorem posted_eq_takePosting : posted k subject value p e = takePosting k subject p.ms value e := by
  rw [posted, if_pos (by simp [takes, passes])]

theorem posted_coalesces (found : ∃ x ∈ e.queue, matchesPosting k subject x = true) :
    posted k subject value p e = { e with queue := coalesceInto k subject p.ms value e.queue } := by
  rw [posted_eq_takePosting takes passes, takePosting, if_pos (List.any_eq_true.mpr found)]

theorem posted_joins (fresh : ∀ x ∈ e.queue, ¬ matchesPosting k subject x = true) (room : e.queue.length < 32) :
    posted k subject value p e = { e with queue := e.queue ++ [⟨k, subject, 0, p.ms, value, false⟩] } := by
  rw [posted_eq_takePosting takes passes, takePosting, if_neg (by simpa using fresh), if_pos room]

theorem posted_is_lost (fresh : ∀ x ∈ e.queue, ¬ matchesPosting k subject x = true) (full : 32 ≤ e.queue.length) :
    posted k subject value p e = { e with lost := min (e.lost + 1) 65535, lostCounter := e.lostCounter + 1 } := by
  rw [posted_eq_takePosting takes passes, takePosting, if_neg (by simpa using fresh), if_neg (Nat.not_lt.mpr full)]

end Posting

theorem coalesceInto_only {k : EventKind} {subject : Half} {stamp value : Word} {before after : List EventRecord}
    {r : EventRecord} (here : matchesPosting k subject r = true)
    (others : (∀ x ∈ before, ¬ matchesPosting k subject x = true) ∧ ∀ x ∈ after, ¬ matchesPosting k subject x = true) :
    coalesceInto k subject stamp value (before ++ r :: after) = before ++ coalesced stamp value r :: after := by
  obtain ⟨hbefore, hafter⟩ := others
  have one : ((before ++ r :: after).filter (matchesPosting k subject)).length = 1 := by
    rw [List.filter_append, List.filter_cons_of_pos here, List.filter_eq_nil_iff.mpr hbefore,
      List.filter_eq_nil_iff.mpr hafter]
    rfl
  rw [coalesceInto, one]
  exact updateMatch_zero_at _ _ before r after (fun x hx => Bool.eq_false_iff.mpr (hbefore x hx)) here

/-- Settles O51: a posting that is not discarded looks for waiting records of its kind and subject, then for room. -/
theorem postingsCoalesceJoinOrAreLost : Obligations.PostingsCoalesceJoinOrAreLost := by
  intro k subject value p e
  simp only [← matchesPosting_iff, ← takesIn_iff, ← maskPasses_iff]
  refine ⟨fun out => posted_eq_self fun ⟨takes, passes⟩ => out.elim (· takes) (· passes), fun takes passes =>
    ⟨fun before r after split here hbefore hafter => ?_, fun found => ?_, fun fresh =>
      ⟨posted_joins takes passes fresh, posted_is_lost takes passes fresh⟩⟩⟩
  · rw [posted_coalesces takes passes ⟨r, by simp [split], here⟩, split, coalesceInto_only here ⟨hbefore, hafter⟩]
    rfl
  · rw [posted_coalesces takes passes found]
    obtain ⟨before, r, after, split, here, coalesces⟩ :=
      coalesceInto_one k subject p.ms value e.queue (List.any_eq_true.mpr found)
    exact ⟨before, r, after, split, here, by rw [coalesces]; rfl⟩

/-! ### Validation (R51) -/

/-- How many stream entries feed a target (R51). -/
def streamsOf (p : PlanContents) (t : Target) : Nat := (p.streams.filter fun e => e.target == t).length

theorem length_keysOf (p : PlanContents) (t : Target) : (keysOf p.streams t).length = streamsOf p t := by
  rw [keysOf, List.length_map, streamsOf]

theorem keysOf_eq_nil_iff (p : PlanContents) (t : Target) : keysOf p.streams t = [] ↔ streamsOf p t = 0 := by
  rw [← List.length_eq_zero_iff, length_keysOf]

theorem allReferences_eq_finRange : allReferences = List.finRange 16 := by decide

/-- In ascending order the search finds the least index that satisfies the test. -/
theorem find?_finRange {n : Nat} {test : Fin n → Bool} {i : Fin n} (here : test i = true)
    (least : ∀ j < i, test j = false) : (List.finRange n).find? test = some i := by
  obtain ⟨before, after, split⟩ := List.append_of_mem (List.mem_finRange i)
  have ascends := split ▸ List.pairwise_lt_finRange n
  refine List.find?_eq_some_iff_append.mpr ⟨here, before, after, split, fun j hj => ?_⟩
  simp [least j ((List.pairwise_append.mp ascends).2.2 j hj i List.mem_cons_self)]

theorem findSome?_finRange {n : Nat} {β : Type} {f : Fin n → Option β} {i : Fin n} {b : β} (here : f i = some b)
    (least : ∀ j < i, f j = none) : (List.finRange n).findSome? f = some b := by
  obtain ⟨before, after, split⟩ := List.append_of_mem (List.mem_finRange i)
  have ascends := split ▸ List.pairwise_lt_finRange n
  exact List.findSome?_eq_some_iff.mpr ⟨before, i, after, split, here, fun j hj =>
    least j ((List.pairwise_append.mp ascends).2.2 j hj i List.mem_cons_self)⟩

section Validation

variable {p : PlanContents}

theorem planInvalid_voltageShared {r : Fin 16} (shared : 2 ≤ streamsOf p (.voltage r))
    (least : ∀ q < r, streamsOf p (.voltage q) ≤ 1) : planInvalid p = some (.voltageShared, r.val) := by
  rw [planInvalid, allReferences_eq_finRange, find?_finRange (by simpa [length_keysOf] using shared)]
  intro q hq
  have := least q hq
  simp only [length_keysOf, decide_eq_false_iff_not]
  omega

theorem find_voltageShared_eq_none_iff (p : PlanContents) :
    (allReferences.find? fun r => decide (2 ≤ (keysOf p.streams (.voltage r)).length)) = none ↔
      ∀ r, streamsOf p (.voltage r) ≤ 1 := by
  simp only [allReferences_eq_finRange, List.find?_eq_none, List.mem_finRange, forall_const, decide_eq_true_eq,
    length_keysOf, Nat.not_le, Nat.lt_succ_iff]

theorem find_currentShared_eq_none_iff (p : PlanContents) :
    (allCircuits.find? fun c => decide (2 ≤ (keysOf p.streams (.current c)).length)) = none ↔
      ∀ c, streamsOf p (.current c) ≤ 1 := by
  simp only [allCircuits_eq_finRange, List.find?_eq_none, List.mem_finRange, forall_const, decide_eq_true_eq,
    length_keysOf, Nat.not_le, Nat.lt_succ_iff]

theorem planInvalid_currentShared (voltages : ∀ r, streamsOf p (.voltage r) ≤ 1) {c : Fin 96}
    (shared : 2 ≤ streamsOf p (.current c)) (least : ∀ b < c, streamsOf p (.current b) ≤ 1) :
    planInvalid p = some (.currentShared, c.val) := by
  rw [planInvalid, (find_voltageShared_eq_none_iff p).mpr voltages]
  simp only [allCircuits_eq_finRange, length_keysOf]
  rw [find?_finRange (decide_eq_true shared)]
  exact fun b hb => decide_eq_false (Nat.not_le.mpr (Nat.lt_succ_of_le (least b hb)))

theorem planInvalid_of_currents (voltages : ∀ r, streamsOf p (.voltage r) ≤ 1)
    (currents : ∀ c, streamsOf p (.current c) ≤ 1) : planInvalid p = allCircuits.findSome? (circuitInvalid p) := by
  rw [planInvalid, (find_voltageShared_eq_none_iff p).mpr voltages]
  simp only [(find_currentShared_eq_none_iff p).mpr currents]

/-- The checks 3a to 3d of R51 hold for a circuit. -/
def CircuitValid (p : PlanContents) (c : Fin 96) : Prop :=
  streamsOf p (.current c) ≠ 0 ∧ (refRecord p (circuitRecord p c).reference).enabled = true ∧
    streamsOf p (.voltage (circuitRecord p c).reference) ≠ 0 ∧ (circuitRecord p c).account ≠ 0

theorem circuitInvalid_eq_none_iff (p : PlanContents) (c : Fin 96) :
    circuitInvalid p c = none ↔ ((circuitRecord p c).enabled = true → CircuitValid p c) := by
  simp only [circuitInvalid, keysOf_eq_nil_iff, CircuitValid]
  repeat' split
  all_goals simp_all

theorem circuitInvalid_of_enabled {c : Fin 96} (enabled : (circuitRecord p c).enabled = true) :
    (streamsOf p (.current c) = 0 → circuitInvalid p c = some (.noCurrentStream, c.val)) ∧
    (streamsOf p (.current c) ≠ 0 → (refRecord p (circuitRecord p c).reference).enabled = false →
      circuitInvalid p c = some (.referenceDisabled, c.val)) ∧
    (streamsOf p (.current c) ≠ 0 → (refRecord p (circuitRecord p c).reference).enabled = true →
      streamsOf p (.voltage (circuitRecord p c).reference) = 0 →
      circuitInvalid p c = some (.noVoltageStream, c.val)) ∧
    (streamsOf p (.current c) ≠ 0 → (refRecord p (circuitRecord p c).reference).enabled = true →
      streamsOf p (.voltage (circuitRecord p c).reference) ≠ 0 → (circuitRecord p c).account = 0 →
      circuitInvalid p c = some (.accountZero, c.val)) := by
  simp +contextual [circuitInvalid, keysOf_eq_nil_iff, enabled]

/-- A plan is valid when no check of R51 fails (R51). -/
theorem planInvalid_eq_none_iff (p : PlanContents) :
    planInvalid p = none ↔ (∀ r, streamsOf p (.voltage r) ≤ 1) ∧ (∀ c, streamsOf p (.current c) ≤ 1) ∧
      ∀ c, (circuitRecord p c).enabled = true → CircuitValid p c := by
  simp only [← find_voltageShared_eq_none_iff, ← find_currentShared_eq_none_iff, ← circuitInvalid_eq_none_iff]
  have every : (allCircuits.findSome? (circuitInvalid p) = none) ↔ ∀ c, circuitInvalid p c = none := by
    simp [allCircuits_eq_finRange]
  rw [← every, planInvalid]
  split
  next found => simp [found]
  next unshared =>
    split
    next found => simp [found]
    next unshared2 => simp [unshared, unshared2]

end Validation

/-- Settles O31: the three checks of R51 in order, each at its least index. -/
theorem validationChecksTheCrossReferences : Obligations.ValidationChecksTheCrossReferences := by
  intro p
  refine ⟨?_, fun r => planInvalid_voltageShared, fun voltages =>
    ⟨fun c => planInvalid_currentShared voltages, fun currents c enabled least => ?_⟩⟩
  · rw [planInvalid_eq_none_iff]
    refine and_congr_right fun voltages => and_congr_right fun currents => forall_congr' fun c => forall_congr' fun _ => ?_
    have one (t : Target) (most : streamsOf p t ≤ 1) : streamsOf p t ≠ 0 ↔ streamsOf p t = 1 := by omega
    rw [CircuitValid, one _ (voltages _), one _ (currents _)]
    rfl
  · have before : ∀ b < c, circuitInvalid p b = none := fun b hb => (circuitInvalid_eq_none_iff p b).mpr (least b hb)
    have here {x} (h : circuitInvalid p c = some x) : planInvalid p = some x := by
      rw [planInvalid_of_currents voltages currents, allCircuits_eq_finRange, findSome?_finRange h before]
    obtain ⟨noCurrent, noReference, noVoltage, noAccount⟩ := circuitInvalid_of_enabled enabled
    exact ⟨fun h => here (noCurrent h), fun h hr => here (noReference h hr), fun h hr hv => here (noVoltage h hr hv),
      fun h hr hv ha => here (noAccount h hr hv ha)⟩

end Sys2Proof.Machine
end


section
/-! PROOFS. What CIRCUIT_UNBLOCKED leaves in the event queue when directions are reported one after another; the reads and
METERING_CLEAR, which are answered at a frame boundary (R79, R103 to R105). -/

namespace Sys2Proof.Machine

variable {s : State} {c : Command}

/-! ### Directions reported unblocked (R100) -/

/-- The event queue after CIRCUIT_UNBLOCKED was posted for each of these directions in turn (R100, R178). -/
def unblockedEvents (p : PartController) (l : List (Fin 96 × Direction)) (e : Events) : Events :=
  l.foldl (fun e v => posted .circuitUnblocked (BitVec.ofNat 16 v.1.val) (if v.2 = .imp then 0 else 1) p e) e

theorem unblockedEvents_append (p : PartController) (l m : List (Fin 96 × Direction)) (e : Events) :
    unblockedEvents p (l ++ m) e = unblockedEvents p m (unblockedEvents p l e) := List.foldl_append

theorem postUnblocked_events (x : Fin 96) (d : Direction) (s : State) :
    (postUnblocked x d s).events = unblockedEvents s.part [(x, d)] s.events := by cases d <;> rfl

theorem ite_postUnblocked_events (b : Bool) (x : Fin 96) (d : Direction) (s : State) :
    (if b then postUnblocked x d s else s).events = unblockedEvents s.part ([(x, d)].filter fun _ => b) s.events := by
  cases b
  · rfl
  · exact postUnblocked_events x d s

/-- Both directions of a circuit, IMPORT first. -/
def bothOf (x : Fin 96) : List (Fin 96 × Direction) := [(x, .imp), (x, .exp)]

theorem filter_bothOf (test : Fin 96 × Direction → Bool) (x : Fin 96) :
    (bothOf x).filter test = ([(x, .imp)].filter fun _ => test (x, .imp)) ++ [(x, .exp)].filter fun _ => test (x, .exp) := by
  cases himp : test (x, .imp) <;> cases hexp : test (x, .exp) <;> simp [bothOf, himp, hexp]

theorem postUnblockedBoth_events (x : Fin 96) (y : CircuitState) (s : State) :
    (postUnblockedBoth x y s).events =
      unblockedEvents s.part ((bothOf x).filter fun v => (y.dir v.2).blocked) s.events := by
  have part : (if y.imp.blocked then postUnblocked x .imp s else s).part = s.part := by split <;> simp
  rw [filter_bothOf, unblockedEvents_append, postUnblockedBoth, ite_postUnblocked_events, ite_postUnblocked_events, part]
  rfl

/-- An operation on one circuit that reports the directions of it that a test picks, and leaves every other circuit: run
over distinct circuits, it reports what the test picks of each as it stood before the first. -/
theorem foldl_unblocks {f : State → Fin 96 → State} {test : CircuitState → Fin 96 × Direction → Bool}
    (posts : ∀ s x, (f s x).events = unblockedEvents s.part ((bothOf x).filter (test (s.circ x))) s.events)
    (part : ∀ s x, (f s x).part = s.part) (others : ∀ s x y, y ≠ x → (f s x).circ y = s.circ y)
    {l : List (Fin 96)} (distinct : l.Nodup) (s : State) :
    (l.foldl f s).events = unblockedEvents s.part ((l.flatMap bothOf).filter fun v => test (s.circ v.1) v) s.events := by
  induction l generalizing s with
  | nil => rfl
  | cons x l ih =>
    obtain ⟨fresh, distinct⟩ := List.nodup_cons.mp distinct
    have here : (bothOf x).filter (fun v => test (s.circ v.1) v) = (bothOf x).filter (test (s.circ x)) :=
      List.filter_congr fun v hv => by
        have : v.1 = x := by rcases List.mem_pair.mp hv with rfl | rfl <;> rfl
        rw [this]
    have rest : (l.flatMap bothOf).filter (fun v => test ((f s x).circ v.1) v) =
        (l.flatMap bothOf).filter fun v => test (s.circ v.1) v :=
      List.filter_congr fun v hv => by
        obtain ⟨y, hy, hv⟩ := List.mem_flatMap.mp hv
        have : v.1 = y := by rcases List.mem_pair.mp hv with rfl | rfl <;> rfl
        rw [this, others s x y (ne_of_mem_of_not_mem hy fresh)]
    rw [List.foldl_cons, ih distinct, part, posts, rest, List.flatMap_cons, List.filter_append, here,
      unblockedEvents_append]

/-- The table of 96 circuits, circuit by circuit. -/
theorem circuits_eq_map (present : s.circuits.length = 96) : s.circuits = allCircuits.map s.circ := by
  refine List.ext_getElem (by simp [present, allCircuits]) fun i hi _ => ?_
  have small : i < 96 := present ▸ hi
  simp [allCircuits, State.circ, Nat.mod_eq_of_lt small, List.getD_eq_getElem?_getD, hi]

theorem circ_onCirc_of_ne {x y : Fin 96} (other : y ≠ x) (f : CircuitState → CircuitState) (s : State) :
    (s.onCirc x f).circ y = s.circ y := (circ_onCirc_or x y f s).resolve_right fun h => other h.1

theorem completeHeld_agent {t : State} (same : t.agent = s.agent) (h : Held) (st : Status) (results : List Byte) :
    (completeHeld h st results t).agent = (completeHeld h st results s).agent := by
  simp only [completeHeld, complete, completeAs, same]
  split
  · split <;> simp [formResponse, same]
  · exact same

/-! ### The reads (R79, R103, R169) -/

theorem execCircuitRead_of_admitted {x : Fin 96} (admitted : Admitted .circuitRead c s)
    (args : c.args = [BitVec.ofNat 8 x.val]) :
    exec .circuitRead s = .next (placeClaim (.circuitRead x) (hold (.circuitRead x) s)) := by
  have row : exec .circuitRead s = .next (circuitRead c.args s) := answered_of_admitted admitted _
  rw [row, circuitRead, args, octetAt_cons_zero, fin_of_octet (by omega)]

theorem execReferenceRead_of_admitted {x : Fin 16} (admitted : Admitted .referenceRead c s)
    (args : c.args = [BitVec.ofNat 8 x.val]) :
    exec .referenceRead s = .next (placeClaim (.referenceRead x) (hold (.referenceRead x) s)) := by
  have row : exec .referenceRead s = .next (referenceRead c.args s) := answered_of_admitted admitted _
  rw [row, referenceRead, args, octetAt_cons_zero, fin_of_octet (by omega)]

theorem execMeteringClear_of_admitted (admitted : Admitted .meteringClear c s) :
    exec .meteringClear s =
      .next (if sessionLive s then refuseState s else placeClaim .meteringClear (hold .meteringClear s)) :=
  answered_of_admitted admitted _

section Boundary

variable {rest : List Claim} (boundary : s.engine.metering = none)
include boundary

theorem execCircuitReadClaim_of {x : Fin 96} (claims : s.engine.claims = .circuitRead x :: rest) :
    exec .circuitReadClaim s = .next (completeHeld (.circuitRead x) .ok (circuitReadResults x s) (dropClaim s)) := by
  show execCircuitReadClaim s = _
  rw [execCircuitReadClaim, nextClaim_of_boundary boundary claims]

theorem execReferenceReadClaim_of {x : Fin 16} (claims : s.engine.claims = .referenceRead x :: rest) :
    exec .referenceReadClaim s = .next (completeHeld (.referenceRead x) .ok (referenceReadResults x s) (dropClaim s)) := by
  show execReferenceReadClaim s = _
  rw [execReferenceReadClaim, nextClaim_of_boundary boundary claims]

theorem execMeteringClearClaim_of (claims : s.engine.claims = .meteringClear :: rest) :
    exec .meteringClearClaim s = .next (clearMetering (dropClaim s)) := by
  show execMeteringClearClaim s = _
  rw [execMeteringClearClaim, nextClaim_of_boundary boundary claims]

end Boundary

theorem floorCode_eq (f : FloorState) : floorCode f = if f = .active then 0 else 1 := by cases f <;> rfl

theorem length_circuitReadResults (x : Fin 96) (s : State) : (circuitReadResults x s).length = 103 := by
  simp [circuitReadResults, DirState.octets]

theorem length_referenceReadResults (x : Fin 16) (s : State) : (referenceReadResults x s).length = 38 := by
  simp [referenceReadResults]

/-! ### METERING_CLEAR (R105) -/

theorem clearCircuit_events (s : State) (x : Fin 96) : (clearCircuit s x).events =
    unblockedEvents s.part ((bothOf x).filter fun v => ((s.circ x).dir v.2).blocked) s.events :=
  postUnblockedBoth_events _ _ _

theorem clearCircuit_others (s : State) (x y : Fin 96) (other : y ≠ x) : (clearCircuit s x).circ y = s.circ y := by
  rw [circ_clearCircuit, circ_onCirc_of_ne other]

theorem clearMetering_events (s : State) : (clearMetering s).events = unblockedEvents s.part
    ((allCircuits.flatMap bothOf).filter fun v => ((s.circ v.1).dir v.2).blocked) s.events := by
  have events : (clearMetering s).events = (allCircuits.foldl clearCircuit s).events := by simp [clearMetering]
  rw [events, foldl_unblocks (test := fun y v => (y.dir v.2).blocked) clearCircuit_events (by simp) clearCircuit_others
    nodup_allCircuits]

theorem clearMetering_circuits (present : s.circuits.length = 96) :
    (clearMetering s).circuits = List.replicate 96 .cleared := by
  have kept : (clearMetering s).circuits.length = 96 := by
    simpa [clearMetering] using
      (foldl_keeps (fun s : State => s.circuits.length) clearCircuit (by simp [clearCircuit]) allCircuits s).trans present
  rw [circuits_eq_map kept]
  refine List.eq_replicate_iff.mpr ⟨by simp [allCircuits], fun x hx => ?_⟩
  obtain ⟨y, -, rfl⟩ := List.mem_map.mp hx
  exact circ_clearMetering present y

theorem clearMetering_builder (s : State) : (clearMetering s).builder = { s.builder with closings := [] } := by
  simp [clearMetering]

theorem discardTotal_imp (present : s.circuits.length = 96) : discardTotal .imp s =
    (s.circuits.map fun x => x.imp.pending).sum + (s.builder.closings.map Closing.impUnits).sum := by
  rw [circuits_eq_map present, List.map_map]
  rfl

theorem discardTotal_exp (present : s.circuits.length = 96) : discardTotal .exp s =
    (s.circuits.map fun x => x.exp.pending).sum + (s.builder.closings.map Closing.expUnits).sum := by
  rw [circuits_eq_map present, List.map_map]
  rfl

theorem clearMetering_agent {t : State} (agent : t.agent = s.agent) (circuits : t.circuits = s.circuits)
    (builder : t.builder = s.builder) (present : s.circuits.length = 96) : (clearMetering t).agent =
    (completeHeld .meteringClear .ok
      (be 4 ((s.circuits.map fun x => x.imp.pending).sum + (s.builder.closings.map Closing.impUnits).sum) ++
        be 4 ((s.circuits.map fun x => x.exp.pending).sum + (s.builder.closings.map Closing.expUnits).sum)) s).agent := by
  rw [← circuits, ← builder, ← discardTotal_imp (circuits ▸ present), ← discardTotal_exp (circuits ▸ present)]
  exact completeHeld_agent (by simpa using agent) _ _ _

/-- Settles O50: the commands place their claims, and the claims answer with the values at the boundary. -/
theorem readsAndClearsAnswerAtTheBoundary : Obligations.ReadsAndClearsAnswerAtTheBoundary := by
  refine ⟨fun c s => ⟨fun x admitted args => execCircuitRead_of_admitted admitted args,
      fun x admitted args => execReferenceRead_of_admitted admitted args,
      fun admitted => ⟨fun closed => ?_, fun live => ?_⟩⟩,
    fun rest s boundary => ⟨fun x claims => ?_, fun x claims => ?_⟩,
    fun rest s boundary claims present => ?_, by decide⟩
  · have dead : ¬ sessionLive s = true := (sessionLive_iff s).not.mpr (not_not.mpr closed)
    rw [execMeteringClear_of_admitted admitted, if_neg dead]
    rfl
  · rw [execMeteringClear_of_admitted admitted, if_pos ((sessionLive_iff s).mpr live)]
    rfl
  · intro r y flag direction results
    have values : results = circuitReadResults x s := by
      simp [results, circuitReadResults, direction, DirState.octets, flag, yesNo, be_one, parkedScan, floorCode_eq, y, r]
    rw [values, length_circuitReadResults, execCircuitReadClaim_of boundary claims, dropClaim_of_claims claims]
    exact ⟨rfl, rfl⟩
  · intro y k newest results
    have values : results = referenceReadResults x s := by
      cases crossing : (s.ref x).census.lastCrossing <;>
        simp [results, referenceReadResults, yesNo, be_one, y, k, newest, crossing]
    rw [values, length_referenceReadResults, execReferenceReadClaim_of boundary claims, dropClaim_of_claims claims]
    exact ⟨rfl, rfl⟩
  · intro imports exports
    have left : (dropClaim s).circuits.length = 96 := present
    have engine : (dropClaim s).engine = { s.engine with claims := rest } := by rw [dropClaim_of_claims claims]
    refine ⟨_, execMeteringClearClaim_of boundary claims, clearMetering_circuits left, clearMetering_builder _, ?_,
      clearMetering_agent rfl rfl rfl present, clearMetering_events _, ?_⟩
    · rw [← engine]
      simp
    · simp

end Sys2Proof.Machine
end


section
/-! PROOFS. The ports: reception (R6, R7), qualification, breaks and entry into UP (R1 to R5, R149). -/

namespace Sys2Proof.Machine

variable {s : State} {p : PortId}

/-! ### Updates of one port -/

theorem onPort_onPort (p : PortId) (f g : Port → Port) (s : State) :
    (s.onPort p f).onPort p g = s.onPort p fun q => g (f q) := by cases p <;> rfl

/-! ### Reception (R6, R7) -/

theorem exec_frameStart_of_up (up : (s.port p).state = .up) :
    exec (.frameStart p) s = .next (s.onPort p fun q => { discardReception q with reception := .assembling [] }) :=
  occurs_of (by simpa using up) _ _

theorem exec_frameEnd_of_up (up : (s.port p).state = .up) : exec (.frameEnd ⟨p, none⟩) s = .next (endReception p s) :=
  occurs_of (by simpa using up) _ _

theorem exec_frameOctet_of_up {octets : List Byte} (octet : Byte) (up : (s.port p).state = .up)
    (assembling : (s.port p).reception = .assembling octets) : exec (.frameOctet p octet) s =
      .next (if octets.length < 1024 then s.onPort p fun q => { q with reception := .assembling (octets ++ [octet]) }
        else s.onPort p makeGiant) := by
  show execFrameOctet p octet s = _
  rw [execFrameOctet, assembling]
  exact occurs_of (by simpa using up) _ _

theorem exec_giantFrame_of_up {octets : List Byte} (up : (s.port p).state = .up)
    (assembling : (s.port p).reception = .assembling octets) (full : octets.length = 1024) :
    exec (.giantFrame p) s = .next (s.onPort p makeGiant) := by
  show execGiantFrame p s = _
  rw [execGiantFrame, assembling]
  exact occurs_of (decide_eq_true ⟨up, full⟩) _ _

/-- A port out of UP receives nothing (R1, R3, R5). -/
theorem reception_of_not_up (octet : Byte) (together : Option LinkLoss) (out : (s.port p).state ≠ .up) :
    exec (.frameStart p) s = .next s ∧ exec (.frameOctet p octet) s = .next s ∧ exec (.giantFrame p) s = .next s ∧
      exec (.frameEnd ⟨p, together⟩) s = .next s := by
  refine ⟨occurs_of_not (by simpa using out) _ _, ?_, ?_, occurs_of_not (by simpa using out) _ _⟩
  · show execFrameOctet p octet s = _
    unfold execFrameOctet
    split
    · exact occurs_of_not (by simpa using out) _ _
    · rfl
    · rfl
  · show execGiantFrame p s = _
    unfold execGiantFrame
    split
    · exact occurs_of_not (by simpa using fun up => absurd up out) _ _
    · rfl
    · rfl

theorem exec_giantFrame_of_short
    (short : ∀ octets, (s.port p).reception = .assembling octets → octets.length ≠ 1024) :
    exec (.giantFrame p) s = .next s := by
  show execGiantFrame p s = _
  unfold execGiantFrame
  split
  next octets assembling => exact occurs_of_not (by simpa using fun _ => short octets assembling) _ _
  · rfl
  · rfl

theorem reception_of_idle (octet : Byte) (up : (s.port p).state = .up)
    (idle : (s.port p).reception = .skipping ∨ (s.port p).reception = .idle) :
    exec (.frameOctet p octet) s = .next s ∧ exec (.frameEnd ⟨p, none⟩) s = .next s := by
  rw [exec_frameEnd_of_up up]
  show execFrameOctet p octet s = _ ∧ _
  rcases idle with h | h <;> simp [execFrameOctet, endReception, h]

theorem discardReception_assembling (q : Port) : { discardReception q with reception := .assembling [] } =
    { q with
      reception := .assembling []
      counters := { q.counters with abortedReceptions := match q.reception with
        | .assembling _ => q.counters.abortedReceptions + 1
        | .idle => q.counters.abortedReceptions
        | .skipping => q.counters.abortedReceptions } } := by
  obtain ⟨state, line, qualified, reception, counters⟩ := q
  cases reception <;> rfl

/-- A completed reception in its three cases (R7). -/
theorem endReception_of {octets : List Byte} (assembling : (s.port p).reception = .assembling octets) :
    (octets.length < 6 → endReception p s = s.onPort p fun q =>
      { q with reception := .idle, counters := { q.counters with runts := q.counters.runts + 1 } }) ∧
    (6 ≤ octets.length → goodFrame octets = false → endReception p s = s.onPort p fun q =>
      { q with reception := .idle, counters := { q.counters with checkErrors := q.counters.checkErrors + 1 } }) ∧
    (6 ≤ octets.length → goodFrame octets = true → endReception p s = goodArrival p octets (s.onPort p fun q =>
      { q with reception := .idle, counters := { q.counters with received := q.counters.received + 1 } })) := by
  have ends : endReception p s = checkReception p octets s := by rw [endReception, assembling]
  rw [ends, checkReception]
  simp only [onPort_onPort]
  refine ⟨fun short => if_pos short, fun long bad => ?_, fun long good => ?_⟩
  · rw [if_neg (Nat.not_lt.mpr long), bad]
    rfl
  · rw [if_neg (Nat.not_lt.mpr long), good]
    rfl

/-- Settles O7: by the port's state, what it is receiving, and the length of it. -/
theorem receptionsAreAssembledAndChecked : Obligations.ReceptionsAreAssembledAndChecked := by
  refine ⟨fun p octet together s => ⟨reception_of_not_up octet together, exec_giantFrame_of_short⟩,
    fun p octet octets s up => ⟨?_, fun assembling room => ?_, fun assembling full => ?_, reception_of_idle octet up⟩,
    fun p octets s up assembling => ?_⟩
  · rw [exec_frameStart_of_up up]
    exact congrArg (fun f => Host.Outcome.next (s.onPort p f)) (funext discardReception_assembling)
  · rw [exec_frameOctet_of_up octet up assembling, if_pos room]
  · have long : ¬ octets.length < 1024 := by omega
    rw [exec_giantFrame_of_up up assembling full, exec_frameOctet_of_up octet up assembling, if_neg long]
    exact ⟨rfl, rfl⟩
  · obtain ⟨runt, bad, good⟩ := endReception_of assembling
    rw [exec_frameEnd_of_up up]
    exact ⟨fun short => congrArg _ (runt short), fun long h => congrArg _ (bad long h),
      fun long h => congrArg _ (good long h)⟩

end Sys2Proof.Machine
end


section
/-! PROOFS. The ports qualify, break and enter UP (R1 to R5, R149). -/

namespace Sys2Proof.Machine

variable {s : State} {p : PortId}

theorem running_eq_false_iff (s : State) : running s = false ↔ s.part.state = .bypass ∨ s.part.state = .starting := by
  unfold running
  cases s.part.state <;> simp

theorem reached_some (n m : Nat) : reached n (some m) = true ↔ n ≤ m := by simp [reached]

theorem portSubject_eq (p : PortId) : portSubject p = if p = .field then 0 else 1 := by cases p <;> rfl

/-! ### Qualification (R1, R2) -/

theorem exec_signalReturn_of_down (down : (s.port p).state = .down) (quiet : (s.port p).line = .noSignal) :
    exec (.signalReturn p) s = .next (s.onPort p fun q =>
      { q with line := .signal, qualified := if running s then some 0 else none }) :=
  occurs_of (decide_eq_true ⟨down, quiet⟩) _ _

theorem exec_signalReturn_of_not (out : (s.port p).state ≠ .down ∨ (s.port p).line ≠ .noSignal) :
    exec (.signalReturn p) s = .next s :=
  occurs_of_not (by simpa only [decide_eq_true_eq, not_and_or] using out) _ _

theorem exec_linkUp_of {n : Nat} (runs : running s = true) (down : (s.port p).state = .down)
    (qualified : (s.port p).qualified = some n) (long : 1 ≤ n) : exec (.linkUp p) s = .next (enterUp p s) := by
  refine occurs_of ?_ _ _
  rw [runs, down, qualified]
  exact (reached_some 1 n).mpr long

theorem exec_linkUp_of_not (out : ¬ (running s = true ∧ (s.port p).state = .down ∧
    ∃ n, (s.port p).qualified = some n ∧ 1 ≤ n)) : exec (.linkUp p) s = .next s := by
  refine occurs_of_not (fun h => out ?_) _ _
  simp only [Bool.and_eq_true, decide_eq_true_eq] at h
  obtain ⟨⟨runs, down⟩, long⟩ := h
  refine ⟨runs, down, ?_⟩
  cases qualified : (s.port p).qualified with
  | none => simp [qualified, reached] at long
  | some n => exact ⟨n, rfl, (reached_some 1 n).mp (qualified ▸ long)⟩

theorem enterUp_of_not_held (out : p = .field ∨ s.session.state ≠ .hold) :
    enterUp p s = post .linkUp (portSubject p) 0 (s.onPort p fun q => { q with state := .up, qualified := none }) := by
  refine if_neg fun ⟨head, hold⟩ => ?_
  rcases out with field | other
  · rw [head] at field
    cases field
  · exact other hold

theorem enterUp_of_held (hold : s.session.state = .hold) : enterUp .head s =
    resumeSession (post .linkUp 1 0 (s.onPort .head fun q => { q with state := .up, qualified := none })) :=
  if_pos ⟨rfl, hold⟩

/-! ### Breaks and losses (R2 to R5) -/

theorem exec_signalLoss_of_up (up : (s.port p).state = .up) :
    exec (.signalLoss p) s = .next (loseLink p .signal s) := by
  show execSignalLoss p s = _
  rw [execSignalLoss, up]

theorem exec_signalLoss_of_down (down : (s.port p).state = .down) : exec (.signalLoss p) s =
    .next (if (s.port p).line = .signal then s.onPort p fun q => { q with line := .noSignal, qualified := none }
      else s) := by
  show execSignalLoss p s = _
  simp only [execSignalLoss, down, occurs, decide_eq_true_eq]

theorem exec_breakOnset_of_up (up : (s.port p).state = .up) :
    exec (.breakOnset p) s = .next (loseLink p .break_ s) := by
  show execBreakOnset p s = _
  rw [execBreakOnset, up]

theorem exec_breakOnset_of_down (down : (s.port p).state = .down) : exec (.breakOnset p) s =
    if running s then .next (enterBreak p s)
    else .next (s.onPort p fun q => { q with line := .break_, qualified := none }) := by
  show execBreakOnset p s = _
  rw [execBreakOnset, down]

theorem exec_of_break (broken : (s.port p).state = .break_) :
    exec (.signalLoss p) s = .next s ∧ exec (.breakOnset p) s = .next s := by
  show execSignalLoss p s = _ ∧ execBreakOnset p s = _
  simp only [execSignalLoss, execBreakOnset, broken, and_self]

theorem exec_breakRelease_of_break (broken : (s.port p).state = .break_) (signal : Bool) :
    exec (.breakRelease p signal) s = .next ((s.onPort p fun q =>
      { q with state := .down, line := lineAfter signal, qualified := if signal then some 0 else none }).onLinks
        fun l => { l with breakTimer := if p = .head then none else l.breakTimer }) := by
  show execBreakRelease p signal s = _
  rw [execBreakRelease, broken]

/-- A port held in DOWN whose line breaks, other than by the break that holds a BREAK bypass (R5, R183). -/
def LineBreaks (p : PortId) (s : State) : Prop :=
  (s.port p).state = .down ∧ (s.port p).line = .break_ ∧ (s.part.state = .bypass ∨ s.part.state = .starting) ∧
    ¬ (p = .head ∧ s.part.state = .bypass ∧ s.part.cause = .break_)

theorem lineBreaks_iff (down : (s.port p).state = .down) :
    (decide ((s.port p).line = .break_) && !running s && !bypassBreak p s) = true ↔ LineBreaks p s := by
  simp [LineBreaks, down, ← running_eq_false_iff, bypassBreak, and_assoc, imp_iff_not_or, or_assoc]

theorem exec_breakRelease_of_lineBreaks (breaks : LineBreaks p s) (signal : Bool) :
    exec (.breakRelease p signal) s = .next (s.onPort p fun q => { q with line := lineAfter signal }) := by
  show execBreakRelease p signal s = _
  rw [execBreakRelease, breaks.1]
  exact occurs_of ((lineBreaks_iff breaks.1).mpr breaks) _ _

theorem exec_breakRelease_of_not (out : (s.port p).state ≠ .break_) (stays : ¬ LineBreaks p s) (signal : Bool) :
    exec (.breakRelease p signal) s = .next s := by
  show execBreakRelease p signal s = _
  unfold execBreakRelease
  split
  next broken => exact absurd broken out
  next down => exact occurs_of_not ((lineBreaks_iff down).not.mpr stays) _ _
  · rfl

/-- Settles O6: by the port's state, what its line carries, and whether the ports run. -/
theorem portsQualifyBreakAndEnterUp : Obligations.PortsQualifyBreakAndEnterUp := by
  refine ⟨fun p s down quiet => ?_, fun p n s notBypass notStarting down qualified => ?_,
    fun p s => ⟨fun notBypass notStarting down => ?_, exec_breakRelease_of_break⟩, fun p s => ?_⟩
  · rw [exec_signalReturn_of_down down quiet]
    refine congrArg (fun f => Host.Outcome.next (s.onPort p f)) (funext fun q => ?_)
    by_cases held : s.part.state = .bypass ∨ s.part.state = .starting
    · rw [(running_eq_false_iff s).mpr held, if_pos held]
      rfl
    · rw [(running_iff s).mpr (not_or.mp held), if_neg held]
      rfl
  · have runs := (running_iff s).mpr ⟨notBypass, notStarting⟩
    refine ⟨fun zero => exec_linkUp_of_not ?_, fun long out => ?_, fun long head hold => ?_⟩
    · rintro ⟨-, -, m, qualified', long⟩
      have : n = m := Option.some.inj (qualified.symm.trans qualified')
      omega
    · rw [exec_linkUp_of runs down qualified long, enterUp_of_not_held out, portSubject_eq]
    · rw [exec_linkUp_of runs down qualified long, head, enterUp_of_held hold]
      rfl
  · rw [exec_breakOnset_of_down down, if_pos ((running_iff s).mpr ⟨notBypass, notStarting⟩)]
    rfl
  · intro held lineBreaks
    refine ⟨fun down signal => ?_, fun down other => ?_, exec_of_break, exec_signalReturn_of_not,
      fun out => exec_linkUp_of_not ?_, fun down hheld => ?_, fun signal =>
        ⟨fun breaks => exec_breakRelease_of_lineBreaks breaks signal,
          fun out stays => exec_breakRelease_of_not out stays signal⟩⟩
    · rw [exec_signalLoss_of_down down, if_pos signal]
    · rw [exec_signalLoss_of_down down, if_neg other]
    · rintro ⟨runs, down, n, qualified, -⟩
      rcases out with notDown | unmeasured | hheld
      · exact notDown down
      · rw [unmeasured] at qualified
        cases qualified
      · rw [(running_eq_false_iff s).mpr hheld] at runs
        cases runs
    · rw [exec_breakOnset_of_down down, (running_eq_false_iff s).mpr hheld]
      rfl

end Sys2Proof.Machine
end


section
/-! PROOFS. A port leaves UP (R2, R3, R13, R148, R149). -/

namespace Sys2Proof.Machine

variable {s : State} {p : PortId}

/-! ### What a good frame does to the ports -/

/-- The states of both ports. -/
def portStates (l : Links) : PortState × PortState := (l.field.state, l.head.state)

theorem portStates_onPort {f : Port → Port} (keeps : ∀ q, (f q).state = q.state) (p : PortId) (s : State) :
    portStates (s.onPort p f).links = portStates s.links := by cases p <;> simp [portStates, keeps]

theorem portStates_offerUp (f : Frame) (s : State) : portStates (offerUp f s).links = portStates s.links := by
  unfold offerUp
  split
  · rfl
  · exact portStates_onPort (f := Port.count _) (fun _ => rfl) _ _

theorem portStates_offerDown (f : DownFrame) (s : State) : portStates (offerDown f s).links = portStates s.links := by
  unfold offerDown
  split
  · rfl
  · exact portStates_onPort (f := Port.count _) (fun _ => rfl) _ _

theorem portStates_retire (n : Nat) (s : State) : portStates (retire n s).links = portStates s.links := by
  unfold retire
  dsimp only
  split <;> simp [orphanTx, portStates]

theorem portStates_takeAck (n : Nat) (s : State) : portStates (takeAck n s).links = portStates s.links := by
  unfold takeAck
  dsimp only
  split <;> split <;> simp [portStates_retire]

theorem portStates_ackFrame (body : List Byte) (s : State) : portStates (ackFrame body s).links = portStates s.links := by
  unfold ackFrame
  dsimp only
  repeat' split
  all_goals simp [portStates_takeAck]

theorem portStates_goodArrival (p : PortId) (f : Frame) (s : State) :
    portStates (goodArrival p f s).links = portStates s.links := by
  cases p
  · show portStates (fieldFrame f s).links = _
    unfold fieldFrame
    dsimp only
    split <;> simp [portStates_offerUp]
  · show portStates (headFrame f s).links = _
    unfold headFrame broadcastFrame
    dsimp only
    repeat' split
    all_goals simp [portStates_offerDown, portStates_ackFrame]

theorem portStates_endReception (p : PortId) (s : State) :
    portStates (endReception p s).links = portStates s.links := by
  unfold endReception checkReception
  simp only [onPort_onPort]
  repeat' split
  · exact portStates_onPort (by intro q; rfl) _ _
  · exact portStates_onPort (by intro q; rfl) _ _
  · rw [portStates_goodArrival]
    exact portStates_onPort (by intro q; rfl) _ _
  · rfl
  · rfl

theorem state_endReception (p : PortId) (s : State) : ((endReception p s).port p).state = (s.port p).state := by
  obtain ⟨field, head⟩ := Prod.mk.inj (portStates_endReception p s)
  cases p
  · exact field
  · exact head

/-! ### Leaving UP (R2, R3, R13) -/

/-- The Field port has left UP into this state, before the posting (R2, R13). -/
def leftField (state : PortState) (line : Line) (s : State) : State :=
  { s with
    links := { s.links with
      field := ⟨state, line, none, .idle, countersOnLeaving s.links.fieldTx s.links.field⟩
      fieldTx := false
      down := if s.links.fieldTx then s.links.down.tail else s.links.down }
    agent := if s.links.fieldTx then (noteCopy (downHeadCopy s) .lost s).agent else s.agent }

theorem leaveUp_field (state : PortState) (line : Line) (value : Word) (s : State) :
    leaveUp .field state line value s = post .linkDown 0 value (leftField state line s) := by
  obtain ⟨part, ⟨⟨st, ln, qualified, reception, counters⟩, head, breakTimer, up, down, fieldTx, headTx, lastServed⟩, sync, engine,
    circuits, refs, plan, builder, session, agent, events, pending⟩ := s
  cases fieldTx <;> cases reception <;> rfl

/-- The Head port has left UP into this state, before the postings (R2, R13, R177). -/
def leftHead (state : PortState) (line : Line) (s : State) : State :=
  { s with
    links := { s.links with
      head := ⟨state, line, none, .idle, countersOnLeaving s.links.headTx.isSome s.links.head⟩
      headTx := none
      up := if headSource s = some .forward then s.links.up.tail else s.links.up }
    events := if headSource s = some .event then
      { s.events with queue := s.events.queue.map fun r => { r with carried := false } } else s.events }

theorem leaveUp_head (state : PortState) (line : Line) (value : Word) (s : State) :
    leaveUp .head state line value s = if s.session.state = .open_ then
        enterHold .link (post .linkDown 1 value (leftHead state line s))
      else post .linkDown 1 value (leftHead state line s) := by
  have left : (abortHead (s.onPort .head discardReception)).onPort .head (fun q =>
      { q with state := state, line := line, qualified := none,
               counters := { q.counters with linkDowns := q.counters.linkDowns + 1 } }) = leftHead state line s := by
    obtain ⟨part, ⟨field, ⟨st, ln, qualified, reception, counters⟩, breakTimer, up, down, fieldTx, headTx, lastServed⟩, sync,
      engine, circuits, refs, plan, builder, session, agent, events, pending⟩ := s
    cases headTx with
    | none => cases reception <;> rfl
    | some tx =>
      obtain ⟨source, octets⟩ := tx
      cases source <;> cases reception <;> rfl
  rw [← left]
  simp only [leaveUp, abortTx, portSubject, true_and]

theorem breakOnset_field (s : State) : enterBreak .field (post .linkDown 0 1 (leftField .break_ .break_ s)) =
    post .linkDown 0 1 { s with
      links := { s.links with
        field := ⟨.break_, .break_, none, .idle, { countersOnLeaving s.links.fieldTx s.links.field with
          breaks := s.links.field.counters.breaks + 1 }⟩
        fieldTx := false
        down := if s.links.fieldTx then s.links.down.tail else s.links.down }
      agent := if s.links.fieldTx then (noteCopy (downHeadCopy s) .lost s).agent else s.agent } := rfl

/-- The Head port has entered BREAK from UP, before the postings (R3, R4, R13). -/
def brokenHead (s : State) : State :=
  { leftHead .break_ .break_ s with
    links := { (leftHead .break_ .break_ s).links with
      head := ⟨.break_, .break_, none, .idle, { countersOnLeaving s.links.headTx.isSome s.links.head with
        breaks := s.links.head.counters.breaks + 1 }⟩
      breakTimer := some 0 } }

theorem breakOnset_head (s : State) :
    enterBreak .head (post .linkDown 1 1 (leftHead .break_ .break_ s)) = post .linkDown 1 1 (brokenHead s) := rfl

theorem breakOnset_head_held (s : State) :
    enterBreak .head (enterHold .link (post .linkDown 1 1 (leftHead .break_ .break_ s))) =
      enterHold .link (post .linkDown 1 1 (brokenHead s)) := rfl

/-! ### A loss that falls together with a frame end (R149) -/

theorem address_is_tap_iff (f : Frame) (s : State) :
    frameAddress f = tapOctet s ↔ (frameAddress f).toNat = s.part.tap.toNat := by
  rw [← BitVec.toNat_inj, tapOctet, BitVec.toNat_setWidth, Nat.mod_eq_of_lt (by omega)]

/-- The frame in reception is an ACK for this tap, at the Head port of a part that takes frames (R9, R10). -/
def ReceivesAck (p : PortId) (s : State) (f : Frame) : Prop :=
  p = .head ∧ (s.port p).reception = .assembling f ∧ 6 ≤ f.length ∧ goodFrame f = true ∧ frameKind f = 0x32 ∧
    (frameAddress f).toNat = s.part.tap.toNat ∧ takesIn s.part.state = true

theorem ackEnding_of_ack {f : Frame} (ack : ReceivesAck p s f) : ackEnding p s = some f := by
  obtain ⟨rfl, assembling, long, good, kind, address, takes⟩ := ack
  simp only [ackEnding, assembling]
  exact if_pos ⟨takes, long, good, kind, (address_is_tap_iff f s).mpr address⟩

theorem ackEnding_of_not (out : ∀ f, ¬ ReceivesAck p s f) : ackEnding p s = none := by
  unfold ackEnding
  split
  next f assembling =>
    refine if_neg fun ⟨takes, long, good, kind, address⟩ => out f ?_
    exact ⟨rfl, assembling, long, good, kind, (address_is_tap_iff f s).mp address, takes⟩
  · rfl

theorem exec_frameEnd_with_loss (up : (s.port p).state = .up) (k : LinkLoss) :
    exec (.frameEnd ⟨p, some k⟩) s = .next (match ackEnding p s with
      | some octets => ackAfterLoss k octets s
      | none => loseLink p k (endReception p s)) :=
  occurs_of (by simpa using up) _ _

/-- Settles O5: what each port leaves behind, and the order of a frame end and a loss that fall together. -/
theorem portsLeaveUp : Obligations.PortsLeaveUp := by
  refine ⟨fun p s ended up ends => ⟨fun out => ?_, fun f ack => ?_⟩, fun s up => ?_, fun s up => ?_⟩
  · have ended_eq : endReception p s = ended := Host.Outcome.next.inj ((exec_frameEnd_of_up up).symm.trans ends)
    have still : (ended.port p).state = .up := ended_eq ▸ (state_endReception p s).trans up
    rw [exec_frameEnd_with_loss up, exec_frameEnd_with_loss up, ackEnding_of_not out, ended_eq,
      exec_signalLoss_of_up still, exec_breakOnset_of_up still]
    exact ⟨rfl, rfl⟩
  · intro received
    have head : p = .head := ack.1
    have still : (received.port .head).state = .up := by
      rw [head] at up
      exact up
    rw [exec_frameEnd_with_loss up, exec_frameEnd_with_loss up, ackEnding_of_ack ack, exec_signalLoss_of_up still,
      exec_breakOnset_of_up still]
    constructor
    · rintro lost ⟨⟩
      rfl
    · rintro lost ⟨⟩
      rfl
  · rw [exec_signalLoss_of_up (p := .field) up, exec_breakOnset_of_up (p := .field) up, loseLink, loseLink,
      leaveUp_field, leaveUp_field, breakOnset_field]
    exact ⟨rfl, rfl⟩
  · intro up events held lost broken
    rw [exec_signalLoss_of_up (p := .head) ‹_›, exec_breakOnset_of_up (p := .head) ‹_›, loseLink, loseLink,
      leaveUp_head, leaveUp_head]
    refine ⟨fun other => ?_, fun opened => ?_⟩
    · rw [if_neg other, if_neg other, breakOnset_head]
      exact ⟨rfl, rfl⟩
    · rw [if_pos opened, if_pos opened, breakOnset_head_held]
      exact ⟨rfl, rfl⟩

end Sys2Proof.Machine
end


section
/-! PROOFS. Where a good frame goes (R8 to R12), and what Field and Head transmit do when a frame is sent whole (R12, R13,
R142, R162, R171, R177). -/

namespace Sys2Proof.Machine

variable {s : State}

/-! ### Good frames (R8 to R12) -/

theorem fieldFrame_of_sample {f : Frame} (takes : takesPart s = true) (sample : frameKind f = 0x10) :
    goodArrival .field f s = acceptSample (frameAddress f) (frameBody f) (offerUp f s) := if_pos ⟨takes, sample⟩

theorem fieldFrame_of_not {f : Frame} (out : takesPart s = false ∨ frameKind f ≠ 0x10) :
    goodArrival .field f s = offerUp f s := by
  refine if_neg fun ⟨takes, sample⟩ => ?_
  rcases out with h | h
  · rw [h] at takes
    cases takes
  · exact h sample

theorem headFrame_of_not_takes {f : Frame} (refuses : takesPart s = false) :
    goodArrival .head f s = offerDown ⟨f, none⟩ s := if_pos (by simp [refuses])

section HeadFrame

variable {f : Frame} (takes : takesPart s = true)
include takes

theorem headFrame_of_sync (kind : frameKind f = 0x20) :
    goodArrival .head f s = syncFrame (frameBody f) (offerDown ⟨f, none⟩ s) := by
  simp [goodArrival, headFrame, takes, kind, kindSync]

theorem headFrame_of_command (kind : frameKind f = 0x30) : goodArrival .head f s =
    if frameAddress f = tapOctet s then commandFrame none (frameBody f) s
    else if (frameAddress f).toNat = 31 then broadcastFrame f s else offerDown ⟨f, none⟩ s := by
  simp [goodArrival, headFrame, takes, kind, kindSync, kindCommand, Config.broadcastAddress]

theorem headFrame_of_other (notSync : frameKind f ≠ 0x20) (notCommand : frameKind f ≠ 0x30) : goodArrival .head f s =
    if frameKind f = 0x32 ∧ frameAddress f = tapOctet s then ackFrame (frameBody f) s else offerDown ⟨f, none⟩ s := by
  have enters : ¬ (!takesPart s) = true := by simp [takes]
  exact (if_neg enters).trans ((if_neg notSync).trans (if_neg notCommand))

end HeadFrame

theorem broadcastFrame_eq (f : Frame) (s : State) : broadcastFrame f s =
    commandFrame (some (s.agent.nextCopy, if s.links.down.length < 4 then .buffered else .lost)) (frameBody f)
      { offerDown ⟨f, some s.agent.nextCopy⟩ s with agent := { s.agent with nextCopy := s.agent.nextCopy + 1 } } := by
  have agent : (offerDown ⟨f, some s.agent.nextCopy⟩ s).agent = s.agent := by simp
  unfold broadcastFrame State.onAgent
  simp only [agent]

/-- Settles O9: by the part state, the frame's kind and its address. -/
theorem goodFramesGoWhereTheirPortSendsThem : Obligations.GoodFramesGoWhereTheirPortSendsThem := by
  constructor
  · intro f s offered
    refine ⟨fun out => fieldFrame_of_not (out.imp_left fun passive => ?_), fun takes sample =>
      fieldFrame_of_sample ((takesIn_iff _).mpr takes) sample⟩
    rw [takesPart, passive]
    rfl
  intro f s offered own
  refine ⟨fun passive => headFrame_of_not_takes ?_, fun takes => ⟨fun kind => ?_, fun kind addressed => ?_,
    fun kind other broadcast => ?_, fun kind other unicast => ?_, fun kind addressed => ?_, fun kind other => ?_,
    fun notSync notCommand notAck => ?_⟩⟩
  · rw [takesPart, passive]
    rfl
  all_goals have takes : takesPart s = true := (takesIn_iff _).mpr takes
  · exact headFrame_of_sync takes kind
  · rw [headFrame_of_command takes kind, if_pos ((address_is_tap_iff f s).mpr addressed)]
  · rw [headFrame_of_command takes kind, if_neg ((address_is_tap_iff f s).not.mpr other), if_pos broadcast, broadcastFrame_eq]
    rfl
  · rw [headFrame_of_command takes kind, if_neg ((address_is_tap_iff f s).not.mpr other), if_neg unicast]
    rfl
  · rw [headFrame_of_other takes (by simp [kind]) (by simp [kind]), if_pos ⟨kind, (address_is_tap_iff f s).mpr addressed⟩]
  · rw [headFrame_of_other takes (by simp [kind]) (by simp [kind]),
      if_neg fun h => other ((address_is_tap_iff f s).mp h.2)]
    rfl
  · rw [headFrame_of_other takes notSync notCommand, if_neg fun h => notAck h.1]
    rfl

/-! ### Field transmit (R12, R13, R171) -/

theorem exec_fieldTransmitBegin_iff (s : State) : exec .fieldTransmitBegin s =
    .next (if s.links.fieldTx = false ∧ s.links.field.state = .up ∧ s.links.down ≠ [] then
      { s with links := { s.links with fieldTx := true } } else s) := by
  show execFieldTransmitBegin s = _
  simp only [execFieldTransmitBegin, occurs, Bool.and_eq_true, Bool.not_eq_true', decide_eq_true_eq, List.isEmpty_eq_false_iff,
    and_assoc]
  rfl

theorem noteCopy_none (fate : CopyFate) (s : State) : noteCopy none fate s = s := by
  have same : (noteCopy none fate s).agent.queue = s.agent.queue := by
    refine (List.map_congr_left fun c _ => ?_).trans (List.map_id _)
    obtain ⟨tag, code, args, broadcast⟩ := c
    cases broadcast <;> rfl
  have eta : noteCopy none fate s =
    { s with agent := { s.agent with queue := (noteCopy none fate s).agent.queue } } := rfl
  rw [eta, same]

theorem noteCopy_some (n : Nat) (fate : CopyFate) (s : State) : (noteCopy (some n) fate s).agent =
    { s.agent with queue := s.agent.queue.map fun c =>
      if c.broadcast.map Prod.fst = some n then { c with broadcast := some (n, fate) } else c } := by
  have queue : (noteCopy (some n) fate s).agent.queue = s.agent.queue.map fun c =>
      if c.broadcast.map Prod.fst = some n then { c with broadcast := some (n, fate) } else c := by
    refine List.map_congr_left fun c _ => ?_
    obtain ⟨tag, code, args, broadcast⟩ := c
    cases broadcast with
    | none => rfl
    | some x => by_cases same : x.1 = n <;> simp [same]
  rw [← queue]
  rfl

theorem copyResets_iff (n : Nat) (s : State) :
    copyResets s (some n) = true ↔ ∃ left, s.agent.resetPending = some ⟨left, some n⟩ := by
  cases pending : s.agent.resetPending with
  | none => simp [copyResets, pending]
  | some r =>
    obtain ⟨left, copyOf⟩ := r
    simp [copyResets, pending]

theorem copyResets_none (s : State) : copyResets s none = false := by
  unfold copyResets
  cases s.agent.resetPending <;> rfl

theorem exec_completeField (s : State) : exec (.transmissionComplete .field) s = .next (completeField s) := rfl

theorem completeField_of_resets (busy : s.links.fieldTx = true) (resets : copyResets s (downHeadCopy s) = true) :
    completeField s = fullReset .command s := by
  rw [completeField, if_pos busy, if_pos resets]

theorem completeField_of_not (busy : s.links.fieldTx = true) (stays : copyResets s (downHeadCopy s) = false) :
    completeField s = (dropDownHead (noteCopy (downHeadCopy s) .completed s)).onPort .field
      (Port.count fun k => { k with transmitted := k.transmitted + 1 }) := by
  rw [completeField, if_pos busy, stays]
  rfl

/-- Settles O11: when Field transmit begins, and what the frame it has sent was a copy of. -/
theorem fieldTransmitServesItsBuffer : Obligations.FieldTransmitServesItsBuffer := by
  refine ⟨fun s => ⟨fun out => ?_, fun idle => ?_⟩, fun d rest s down =>
    ⟨fun up idle => ?_, fun busy plain => ?_, fun busy n copy => ⟨fun left pending => ?_, fun other => ?_⟩⟩⟩
  · rw [exec_fieldTransmitBegin_iff, if_neg]
    rintro ⟨idle, up, waiting⟩
    rcases out with busy | notUp | empty
    · rw [idle] at busy
      cases busy
    · exact notUp up
    · exact waiting empty
  · rw [exec_completeField, completeField, idle]
    rfl
  · rw [exec_fieldTransmitBegin_iff, if_pos ⟨idle, up, by simp [down]⟩]
  all_goals have head : downHeadCopy s = d.copyOf := by rw [downHeadCopy, down]
  · rw [plain] at head
    rw [exec_completeField, completeField_of_not busy (by rw [head, copyResets_none]), head, noteCopy_none]
    simp [dropDownHead, State.onPort, State.onLinks, Links.onPort, Port.count, down]
  all_goals rw [copy] at head
  · exact ⟨_, congrArg Host.Outcome.next (completeField_of_resets busy (by rw [head]; exact (copyResets_iff n s).mpr ⟨left, pending⟩)),
      fullReset_fullyReset _ _⟩
  · have stays : copyResets s (downHeadCopy s) = false := by
      rw [head, ← Bool.not_eq_true, copyResets_iff]
      exact fun ⟨left, pending⟩ => other left pending
    refine ⟨_, congrArg Host.Outcome.next (completeField_of_not busy stays), ?_, ?_⟩
    · simp [dropDownHead, State.onPort, State.onLinks, Links.onPort, Port.count, down]
    · rw [head, State.onPort_agent, ← noteCopy_some]
      simp

end Sys2Proof.Machine
end


section
/-! PROOFS. Head transmit: what a frame sent whole tells its source (R13, R142, R162, R171, R177), and which frame the
arbiter chooses next (R14 to R17, R141, R176), with the bodies of the frames the part originates (R194 to R196). -/

namespace Sys2Proof.Machine

variable {s : State}

/-! ### Endings (R13) -/

/-- The links after a frame was sent whole at Head transmit (R13). -/
def headSent (l : Links) : Links :=
  { l with
    headTx := none
    head := { l.head with counters := { l.head.counters with transmitted := l.head.counters.transmitted + 1 } } }

theorem exec_completeHead_of {src : HeadSource} {f : Frame} (busy : s.links.headTx = some ⟨src, f⟩) :
    exec (.transmissionComplete .head) s = .next (completeSource src { s with links := headSent s.links }) := by
  show Host.Outcome.next (completeHead s) = _
  rw [completeHead, busy]
  rfl

theorem exec_completeHead_of_idle (idle : s.links.headTx = none) : exec (.transmissionComplete .head) s = .next s := by
  show Host.Outcome.next (completeHead s) = _
  rw [completeHead, idle]

theorem completeSource_response {r : QueuedResponse} {rest : List QueuedResponse} (queued : s.agent.responses = r :: rest) :
    completeSource .response s = if r.resets then fullReset .command s else popResponse s := by
  rw [completeSource, responseResets, queued]

theorem popResponse_of_none {r : QueuedResponse} {rest : List QueuedResponse} (queued : s.agent.responses = r :: rest)
    (free : s.agent.waiting = none) : popResponse s = { s with agent := { s.agent with responses := rest } } := by
  simp [popResponse, State.onAgent, admitWaiting, queued, free]

theorem popResponse_of_some {r w : QueuedResponse} {rest : List QueuedResponse} (queued : s.agent.responses = r :: rest)
    (waits : s.agent.waiting = some w) (room : rest.length < 4) : popResponse s = { s with agent := { s.agent with
      responses := rest ++ [w], retained := some w.response, waiting := none, queue := s.agent.queue.tail } } := by
  simp [popResponse, State.onAgent, admitWaiting, queued, waits, room, Config.responsePlaces]

/-- The session after a TALLY frame for this record was sent whole (R142). -/
def sessionSent (record : Option Half) (again : Bool) (q : Session) : Session :=
  let q1 := match record with
    | none => q
    | some seq => tallySent seq q
  { q1 with retransmissions := q1.retransmissions + if again then 1 else 0 }

theorem tallyComplete_eq (record : Option Half) (again : Bool) (s : State) :
    tallyComplete record again s = { s with session := sessionSent record again s.session } := by
  cases record <;> cases again <;> simp [tallyComplete, sessionSent, State.onSession]

theorem tallyCompletes {record : Option Half} {again : Bool} {f : Frame} (busy : s.links.headTx = some ⟨.tally record again, f⟩) :
    exec (.transmissionComplete .head) s =
      .next { s with links := headSent s.links, session := sessionSent record again s.session } := by
  rw [exec_completeHead_of busy, completeSource, tallyComplete_eq]

theorem sessionSent_highest (q : Half) (again : Bool) (x : Session) : (sessionSent (some q) again x).highest =
    some (match x.highest with
      | none => q
      | some h => if (h - (x.base - 1)).toNat < (q - (x.base - 1)).toNat then q else h) := by
  show (Machine.tallySent q x).highest = _
  unfold Machine.tallySent Session.placeFrom
  cases x.highest with
  | none => rfl
  | some h => dsimp only; split <;> rfl

/-- Settles O12: by the source of the frame that was sent. -/
theorem headTransmitCompletes : Obligations.HeadTransmitCompletes := by
  refine ⟨fun s => exec_completeHead_of_idle, ?_, fun record again f s busy => ?_⟩
  intro f s sent
  refine ⟨fun r rest busy queued => ?_, fun busy => ?_, fun busy => ?_⟩
  · rw [exec_completeHead_of busy]
    have queued' : ({ s with links := headSent s.links } : State).agent.responses = r :: rest := queued
    rw [completeSource_response queued']
    refine ⟨fun resets => ?_, fun stays free => ?_, fun stays room w waits => ?_⟩
    · rw [resets]
      exact ⟨_, rfl, fullReset_fullyReset _ _⟩
    · rw [stays, if_neg Bool.false_ne_true, popResponse_of_none queued' free]
      rfl
    · rw [stays, if_neg Bool.false_ne_true, popResponse_of_some queued' waits room]
      rfl
  · rw [exec_completeHead_of busy]
    rfl
  · rw [exec_completeHead_of busy]
    rfl
  · refine ⟨_, tallyCompletes busy, rfl, ?_, ?_, ?_⟩
    · cases record <;> rfl
    · rintro rfl
      exact ⟨rfl, rfl, rfl⟩
    · rintro q rfl
      exact ⟨rfl, sessionSent_highest q again s.session, rfl⟩

/-! ### The arbiter (R16, R17, R141) -/

theorem exec_headTransmitChoice_of_not (out : s.links.headTx ≠ none ∨ s.links.head.state ≠ .up) :
    exec .headTransmitChoice s = .next s := by
  refine occurs_of_not ?_ _ _
  simpa [imp_iff_not_or] using out

theorem exec_headTransmitChoice_of (idle : s.links.headTx = none) (up : s.links.head.state = .up) :
    exec .headTransmitChoice s = .next (choose s) :=
  occurs_of (by simp [idle, up]) _ _

theorem choose_response {r : QueuedResponse} {rest : List QueuedResponse} (queued : s.agent.responses = r :: rest) :
    choose s = beginHead .response (buildFrame kindResponse (tapOctet s) (responseBody r.response)) s := by
  rw [choose, queued]

theorem ownWaiting_eq_false_iff (s : State) :
    ownWaiting s = false ↔ s.session.eligible = none ∧ s.events.queue = [] := by
  simp [ownWaiting]

section NoResponse

variable (noResponse : s.agent.responses = [])
include noResponse

theorem choose_forward {f : Frame} {rest : List Frame} (forward : s.links.up = f :: rest)
    (turn : s.links.lastServed = .own ∨ (s.session.eligible = none ∧ s.events.queue = [])) :
    choose s = sendForward f s := by
  rw [choose, noResponse, forward]
  refine if_neg fun ⟨own, last⟩ => ?_
  rcases turn with h | h
  · rw [h] at last
    cases last
  · rw [(ownWaiting_eq_false_iff s).mpr h] at own
    cases own

theorem choose_own (own : ownWaiting s = true) (turn : s.links.up = [] ∨ s.links.lastServed = .forward) :
    choose s = sendOwn s := by
  rw [choose, noResponse]
  cases up : s.links.up with
  | nil => exact if_pos own
  | cons f rest => exact if_pos ⟨own, turn.resolve_left (by simp [up])⟩

theorem choose_nothing (noForward : s.links.up = []) (noOwn : ownWaiting s = false) : choose s = s := by
  rw [choose, noResponse, noForward, noOwn]
  rfl

end NoResponse

theorem sendOwn_tally {r : Record} (eligible : s.session.eligible = some r) : sendOwn s =
    { s with links := { s.links with
      headTx := some ⟨.tally (some r.sequence) (decide (r.state = .resend)),
        buildFrame 0x40 (s.part.tap.setWidth 8) (tallyBody r (decide (r.state = .resend)))⟩
      lastServed := .own } } := by
  rw [sendOwn, eligible]
  rfl

theorem sendOwn_event (noTally : s.session.eligible = none) : sendOwn s =
    { s with
      links := { s.links with
        headTx := some ⟨.event,
          buildFrame 0x41 (s.part.tap.setWidth 8) (eventBody s.events.lost (s.events.queue.take 8))⟩
        lastServed := .own }
      events := { s.events with queue :=
        (s.events.queue.take 8).map (fun r => { r with carried := true }) ++ s.events.queue.drop 8 } } := by
  rw [sendOwn, noTally]
  rfl

theorem find_unsent_iff (l : List Record) (r : Record) : l.find? (fun r => r.state != .sent) = some r ↔
    ∃ before after, l = before ++ r :: after ∧ (∀ x ∈ before, x.state = .sent) ∧ r.state ≠ .sent := by
  rw [List.find?_eq_some_iff_append]
  constructor
  · rintro ⟨waits, before, after, split, sent⟩
    exact ⟨before, after, split, fun x hx => by simpa using sent x hx, by simpa using waits⟩
  · rintro ⟨before, after, split, sent, waits⟩
    exact ⟨by simpa using waits, before, after, split, fun x hx => by simpa using sent x hx⟩

theorem eligible_of_open {q : Session} (opened : q.state = .open_) (r : Record) : q.eligible = some r ↔
    q.queue.find? (fun r => r.state != .sent) = some r ∧ (r.sequence - q.base).toNat < 8 := by
  unfold Session.eligible
  rw [opened]
  cases q.queue.find? fun r => r.state != .sent with
  | none => simp
  | some x =>
    simp only [Option.some.injEq, Option.ite_none_right_eq_some]
    constructor
    · rintro ⟨near, rfl⟩
      exact ⟨rfl, near⟩
    · rintro ⟨rfl, near⟩
      exact ⟨near, rfl⟩

/-- The record that may be transmitted is the oldest that is not SENT, within the window (R141). -/
theorem eligible_iff (q : Session) (r : Record) : q.eligible = some r ↔
    q.state = .open_ ∧ ∃ before after, q.queue = before ++ r :: after ∧ (∀ x ∈ before, x.state = .sent) ∧
      r.state ≠ .sent ∧ (r.sequence - ((q.queue.head?.map Record.sequence).getD q.next)).toNat < 8 := by
  by_cases opened : q.state = .open_
  · rw [eligible_of_open opened, find_unsent_iff, base_eq]
    simp [opened, ← and_assoc]
  · have none : q.eligible = none := by
      unfold Session.eligible
      cases state : q.state <;> simp_all
    simp [none, opened]

/-! ### The bodies (R194 to R196) -/

/-- A number for a bit that is set, and 0 for one that is not. -/
def bitValue (b : Bool) (n : Nat) : Nat := if b then n else 0

theorem octet_eq_be (b : Byte) : [b] = be 1 b.toNat := by
  rw [be_one, BitVec.ofNat_toNat, BitVec.setWidth_eq]

theorem yesNo_eq_be (b : Bool) : [yesNo b] = be 1 (bitValue b 1) := by cases b <;> rfl

theorem entryOctets_units (u : UnitsRef) (account : Word) : entryOctets (.units u account) =
    be 1 (16 + bitValue (u.direction == .exp) 4 + bitValue u.test 2 + bitValue u.holdover 1) ++
      be 1 u.circuit.val ++ be 2 u.units ++ be 4 account.toNat := by
  simp [entryOctets, be_one, entryFlags, bitValue, Nat.add_assoc]

theorem entryOctets_close (k : Closing) : entryOctets (.close k) =
    be 1 (32 + bitValue k.test 2 + bitValue k.holdover 1) ++ be 1 k.circuit.val ++ be 4 k.account.toNat ++
      be 3 k.impUnits ++ be 3 k.expUnits ++ be 1 (k.impPartial * 16 + k.expPartial) ++ be 6 k.impResidue ++
      be 6 k.expResidue ++ be 6 k.quantum.toNat ++ be 1 k.acceleration.toNat := by
  simp [entryOctets, be_one, entryFlags, bitValue, Nat.add_assoc]

/-- Settles O10: the choice by the classes that wait, the eligible record, and the bodies octet by octet. -/
theorem headTransmitServesTheClasses : Obligations.HeadTransmitServesTheClasses := by
  refine ⟨fun s => exec_headTransmitChoice_of_not, fun s idle up => ?_, eligible_iff, ?_, by decide, by decide, by decide⟩
  · rw [exec_headTransmitChoice_of idle up]
    refine ⟨fun r rest queued => ?_, fun noResponse => ⟨fun f rest forward turn => ?_, fun turn =>
      ⟨fun r eligible => ?_, fun noTally events => ?_⟩, fun noForward noTally noEvent => ?_⟩⟩
    · rw [choose_response queued]
      rfl
    · rw [choose_forward noResponse forward turn]
      rfl
    · rw [choose_own noResponse (by simp [ownWaiting, eligible]) turn, sendOwn_tally eligible]
    · rw [choose_own noResponse (by simpa [ownWaiting] using .inr events) turn, sendOwn_event noTally]
    · rw [choose_nothing noResponse noForward ((ownWaiting_eq_false_iff s).mpr ⟨noTally, noEvent⟩)]
  · intro bit
    refine ⟨fun r => rfl, fun r again => ?_, fun r => ?_, fun lost rs => rfl⟩
    · rw [tallyBody, yesNo_eq_be, octet_eq_be r.epoch]
      refine congrArg _ (congrArg (fun f => r.entries.flatMap f) (funext fun e => ?_))
      cases e with
      | units u account => exact entryOctets_units u account
      | close k => exact entryOctets_close k
    · have octets : (tallyBody r false).length = 10 + (r.entries.map fun e => (entryOctets e).length).sum := by
        simp [tallyBody, List.length_flatMap]
        omega
      refine octets.trans (congrArg (fun l => 10 + List.sum l) (List.map_congr_left fun e _ => ?_))
      cases e <;> simp [entryOctets]

end Sys2Proof.Machine
end


section
/-! PROOFS. The frame on the wire, the two check values bit by bit, and the octets a plan check covers (R7, R191, R198). -/

namespace Sys2Proof.Machine

/-! ### Good frames (R7) -/

/-- A frame is good when its count of octets and its last two octets fit the rest (R7, R191). -/
theorem goodFrame_iff {f : Frame} (long : 6 ≤ f.length) : goodFrame f = true ↔
    f.length = 6 + (f.getD 2 0).toNat * 256 + (f.getD 3 0).toNat ∧
      (crc16 (f.take (f.length - 2))).toNat = (f.getD (f.length - 2) 0).toNat * 256 + (f.getD (f.length - 1) 0).toNat := by
  have body : frameBodyLength f = (f.getD 2 0).toNat * 256 + (f.getD 3 0).toNat := fieldAt_two (by omega)
  simp only [goodFrame, Config.smallestFrame, Bool.and_eq_true, beq_iff_eq, Nat.add_assoc, ← body]
  refine and_congr_right fun count => ?_
  have front : 4 + frameBodyLength f = f.length - 2 := by omega
  rw [front, fieldAt_two (by omega), show f.length - 2 + 1 = f.length - 1 by omega]

/-! ### The check values bit by bit (R191, R198) -/

/-- A settled fold over a register held as a number is the fold over the register. -/
theorem foldOctets_register {w : Nat} (f : BitVec w → Byte → BitVec w) (l : List Byte) (r : BitVec w) :
    BitVec.ofNat w (foldOctets (fun n b => (f (BitVec.ofNat w n) b).toNat) l r.toNat) = l.foldl f r := by
  rw [foldOctets_eq_foldl]
  induction l generalizing r with
  | nil => simp
  | cons b l ih =>
    rw [List.foldl_cons, List.foldl_cons, BitVec.ofNat_toNat, BitVec.setWidth_eq]
    exact ih _

theorem crc16_eq (l : List Byte) : crc16 l = l.foldl crc16Octet 0xFFFF := foldOctets_register crc16Octet l 0xFFFF

/-- One bit of the CRC-16 as R191 says it. -/
def crc16Step (b : Byte) (r : Half) (i : Nat) : Half :=
  if r.getMsbD 0 ≠ b.getMsbD i then (r <<< 1) ^^^ 0x1021 else r <<< 1

theorem crc16Octet_eq (r : Half) (b : Byte) : crc16Octet r b = (List.range 8).foldl (crc16Step b) r := by
  have bit (r : Half) (i : Nat) : crc16Bit r (b.getMsbD i) = crc16Step b r i := by
    simp only [crc16Bit, crc16Step, bne_iff_ne]
    rfl
  simp only [crc16Octet, bit]
  rfl

/-- One bit of the CRC-32 as R198 says it. -/
def crc32Step (b : Byte) (r : Word) (i : Nat) : Word :=
  if r.getLsbD 0 ≠ b.getLsbD i then (r >>> 1) ^^^ 0xEDB88320 else r >>> 1

/-- The octet's bits may be combined with the register one at a time: the others wait in a word of their own. -/
theorem crc32Bit_xor (r y : Word) : crc32Bit (r ^^^ y) =
    (if r.getLsbD 0 ≠ y.getLsbD 0 then (r >>> 1) ^^^ 0xEDB88320 else r >>> 1) ^^^ (y >>> 1) := by
  have shift : (r ^^^ y) >>> 1 = r >>> 1 ^^^ y >>> 1 := BitVec.ushiftRight_xor_distrib ..
  have bit : (r ^^^ y).getLsbD 0 = (r.getLsbD 0 ^^ y.getLsbD 0) := BitVec.getLsbD_xor
  rw [crc32Bit, shift, bit]
  have late (x z c : Word) : x ^^^ z ^^^ c = x ^^^ c ^^^ z := by rw [BitVec.xor_assoc, BitVec.xor_comm z, ← BitVec.xor_assoc]
  cases r.getLsbD 0 <;> cases y.getLsbD 0 <;> simp [late]

theorem iterate_crc32Bit (b : Byte) (r : Word) (n : Nat) : crc32Bit^[n] (r ^^^ b.setWidth 32) =
    (List.range n).foldl (crc32Step b) r ^^^ (b.setWidth 32 >>> n) := by
  induction n with
  | zero => simp
  | succ n ih =>
    have next : (b.setWidth 32 >>> n : Word).getLsbD 0 = b.getLsbD n := by
      rw [BitVec.getLsbD_ushiftRight, BitVec.getLsbD_setWidth, Nat.add_zero]
      by_cases inside : n < 32
      · simp [inside]
      · simp [BitVec.getLsbD_of_ge b n (by omega)]
    rw [Function.iterate_succ_apply', ih, crc32Bit_xor, next, List.range_succ, List.foldl_append, ← BitVec.shiftRight_add]
    rfl

theorem crc32Octet_eq (r : Word) (b : Byte) : crc32Octet r b = (List.range 8).foldl (crc32Step b) r := by
  have spent : (b.setWidth 32 >>> 8 : Word) = 0#32 := by
    refine BitVec.eq_of_toNat_eq ?_
    rw [BitVec.toNat_ushiftRight, BitVec.toNat_setWidth, Nat.shiftRight_eq_div_pow, BitVec.toNat_ofNat]
    omega
  have octet := iterate_crc32Bit b r 8
  rw [spent, BitVec.xor_zero] at octet
  exact octet

/-! ### The canonical serialization (R198) -/

theorem streamOctets_eq (e : StreamEntry) : streamOctets e =
    be 1 e.node.val ++ be 1 e.channel.val ++ match e.target with
      | .voltage r => 0 :: be 1 r.val
      | .current c => 1 :: be 1 c.val
      | .ignore => [2, 0] := by
  obtain ⟨node, channel, target⟩ := e
  cases target <;> simp [streamOctets, be_one]

theorem polarityCode_eq (x : Polarity) : polarityCode x = if x = .normal then 0 else 1 := by cases x <;> rfl

theorem selectCode_eq (x : Select) : selectCode x = if x = .imp then 0 else if x = .exp then 1 else 2 := by
  cases x <;> rfl

theorem circuitOctets_eq (r : CircuitRecord) : circuitOctets r =
    yesNo r.enabled :: be 4 r.account.toNat ++ be 1 r.reference.val ++ [if r.polarity = .normal then 0 else 1] ++
      be 2 r.gain.toNat ++ be 2 r.offset.toNat ++ be 6 r.quantum.toNat ++
      [r.divisor, r.acceleration, if r.select = .imp then 0 else if r.select = .exp then 1 else 2, yesNo r.floorEnable] ++
      be 2 r.floorStep.toNat ++ be 6 r.floorLimit.toNat := by
  simp [circuitOctets, be_one, polarityCode_eq, selectCode_eq]

theorem length_serialize (p : PlanContents) : (serialize p).length =
    2 + 4 * p.streams.length + 29 * p.circuits.length + 8 * p.references.length := by
  simp [serialize, List.length_flatMap, Nat.mul_comm, Nat.add_assoc]

/-! ### Built frames (R14) -/

/-- What stands before the frame check of a built frame (R191). -/
def frameFront (kind address : Byte) (body : List Byte) : List Byte := kind :: address :: be 2 body.length ++ body

theorem buildFrame_eq (kind address : Byte) (body : List Byte) : buildFrame kind address body =
    frameFront kind address body ++ be 2 (crc16 (frameFront kind address body)).toNat := rfl

section Built

variable (kind address : Byte) {body : List Byte}

theorem length_frameFront : (frameFront kind address body).length = 4 + body.length := by
  simp [frameFront]
  omega

theorem length_buildFrame : (buildFrame kind address body).length = 6 + body.length := by
  rw [buildFrame_eq, List.length_append, length_frameFront, be_length]
  omega

theorem frameBodyLength_buildFrame (small : body.length ≤ 65535) :
    frameBodyLength (buildFrame kind address body) = body.length := by
  have field : fieldAt (be 2 body.length ++ (body ++ be 2 (crc16 (frameFront kind address body)).toNat)) 0 2 = body.length := by
    rw [fieldAt_be_append]
    exact Nat.mod_eq_of_lt (by omega)
  simpa [buildFrame_eq, frameBodyLength, frameFront, fieldAt_cons] using field

theorem frameBody_buildFrame (small : body.length ≤ 65535) : frameBody (buildFrame kind address body) = body := by
  rw [frameBody, frameBodyLength_buildFrame kind address small]
  have dropped : (buildFrame kind address body).drop 4 = body ++ be 2 (crc16 (frameFront kind address body)).toNat := by
    simp [buildFrame_eq, frameFront, be]
  rw [dropped, List.take_left]

theorem goodFrame_buildFrame (small : body.length ≤ 65535) : goodFrame (buildFrame kind address body) = true := by
  have front : 4 + body.length = (frameFront kind address body).length := (length_frameFront kind address).symm
  have check : fieldAt (buildFrame kind address body) (4 + body.length) 2 = (crc16 (frameFront kind address body)).toNat := by
    rw [buildFrame_eq, front, fieldAt_append_right 2 le_rfl, Nat.sub_self, fieldAt_be]
    exact Nat.mod_eq_of_lt (BitVec.isLt _)
  rw [goodFrame, frameBodyLength_buildFrame kind address small, check, length_buildFrame, buildFrame_eq, front, List.take_left]
  simp [Config.smallestFrame]

end Built

/-- Settles O8: good frames, the two checks bit by bit, the serialization, and the parts of a built frame. -/
theorem goodFramesAndBuiltFrames : Obligations.GoodFramesAndBuiltFrames := by
  refine ⟨fun f => goodFrame_iff, fun l => ⟨?_, ?_⟩, ?_, fun kind address body small =>
    ⟨goodFrame_buildFrame kind address small, length_buildFrame kind address, rfl, rfl, frameBody_buildFrame kind address small⟩⟩
  · rw [crc16_eq]
    exact congrArg (fun f => l.foldl f 0xFFFF) (funext fun r => funext fun b => crc16Octet_eq r b)
  · rw [crc32, crc32Run_eq]
    exact congrArg (fun f => ~~~ l.foldl f 0xFFFFFFFF) (funext fun r => funext fun b => crc32Octet_eq r b)
  · intro p flag
    refine ⟨rfl, ?_, fun circuits references => ?_⟩
    · have streams := congrArg (fun f => p.streams.flatMap f) (funext streamOctets_eq)
      have circuits := congrArg (fun f => p.circuits.flatMap f) (funext circuitOctets_eq)
      exact congrArg₂ _ (congrArg₂ _ (congrArg _ streams) circuits) rfl
    · rw [length_serialize, circuits, references]

end Sys2Proof.Machine
end


section
/-! PROOFS. Ack release and session restore claims over the whole circuit table (R100, R145, R151). -/

namespace Sys2Proof.Machine

variable {s : State}

/-! ### What stays of a circuit when only its directions move (R107) -/

/-- A circuit with its two directions blanked out. -/
def CircuitState.shell (x : CircuitState) : CircuitState := { x with imp := .cleared, exp := .cleared }

theorem CircuitState.eq_of_shell {x y : CircuitState} (same : x.shell = y.shell) :
    x = { y with imp := x.dir .imp, exp := x.dir .exp } := by
  cases x
  cases y
  simp only [shell, CircuitState.mk.injEq, true_and] at same
  obtain ⟨rfl, rfl, rfl, rfl, rfl, rfl, rfl, rfl⟩ := same
  rfl

theorem shell_onDir (e : Fin 96) (d : Direction) (f : DirState → DirState) (s : State) (c : Fin 96) :
    ((s.onDir e d f).circ c).shell = (s.circ c).shell :=
  onCirc_keeps CircuitState.shell (fun x => by cases d <;> rfl) e c s

theorem shell_lowerInFlight (us : List UnitsRef) (s : State) (c : Fin 96) :
    ((us.foldl lowerInFlight s).circ c).shell = (s.circ c).shell :=
  foldl_keeps (fun s : State => (s.circ c).shell) _ (fun _ _ => shell_onDir _ _ _ _ c) us s

theorem shell_restoreUnits (us : List UnitsRef) (s : State) (c : Fin 96) :
    ((us.foldl restoreUnits s).circ c).shell = (s.circ c).shell :=
  foldl_keeps (fun s : State => (s.circ c).shell) _ (fun _ _ => shell_onDir _ _ _ _ c) us s

theorem shell_unblockTest (e : Fin 96) (d : Direction) (s : State) (c : Fin 96) :
    ((unblockTest e d s).circ c).shell = (s.circ c).shell := by
  unfold unblockTest
  dsimp only
  split
  · exact shell_onDir e d _ s c
  · rfl

theorem shell_releaseUnits (us : List UnitsRef) (s : State) (c : Fin 96) :
    ((releaseUnits us s).circ c).shell = (s.circ c).shell :=
  (foldl_keeps (fun s : State => (s.circ c).shell) _ (fun _ _ => shell_unblockTest _ _ _ c) us _).trans
    (shell_lowerInFlight us s c)

/-- A table whose circuits keep all but their directions, circuit by circuit. -/
theorem circuits_eq_of_shell {t : State} (present : t.circuits.length = 96)
    (shell : ∀ c, (t.circ c).shell = (s.circ c).shell) {f : Fin 96 → Direction → DirState}
    (dirs : ∀ c d, (t.circ c).dir d = f c d) :
    t.circuits = allCircuits.map fun c => { s.circ c with imp := f c .imp, exp := f c .exp } := by
  rw [circuits_eq_map present]
  refine List.map_congr_left fun c _ => ?_
  rw [← dirs, ← dirs]
  exact CircuitState.eq_of_shell (shell c)

/-! ### Which directions an ack release claim unblocks, and in what order (R100) -/

theorem filter_eraseDups {α : Type} [BEq α] [LawfulBEq α] (p : α → Bool) : (l : List α) →
    l.eraseDups.filter p = (l.filter p).eraseDups
  | [] => rfl
  | a :: l => by
    rw [List.eraseDups_cons, List.filter_cons, filter_eraseDups p (l.filter fun b => !b == a), List.filter_comm]
    by_cases pass : p a = true
    · rw [if_pos pass, List.filter_cons_of_pos pass, List.eraseDups_cons]
    · rw [if_neg pass, List.filter_cons_of_neg pass]
      refine congrArg List.eraseDups (List.filter_eq_self.mpr fun b hb => ?_)
      have : b ≠ a := fun same => pass (same ▸ (List.mem_filter.mp hb).2)
      simpa using this
termination_by l => l.length
decreasing_by exact Nat.lt_succ_of_le (List.length_filter_le _ l)

/-- The direction is blocked and owes less than the cap. -/
def mayUnblock (s : State) (v : Fin 96 × Direction) : Bool :=
  ((s.circ v.1).dir v.2).blocked && decide (((s.circ v.1).dir v.2).owed < 16777215)

theorem unblockTest_events (e : Fin 96) (d : Direction) (s : State) :
    (unblockTest e d s).events = unblockedEvents s.part ([(e, d)].filter (mayUnblock s)) s.events := by
  by_cases may : mayUnblock s (e, d) = true
  · rw [List.filter_cons_of_pos may]
    rw [mayUnblock, Bool.and_eq_true, decide_eq_true_eq] at may
    rw [unblockTest, if_pos may, postUnblocked_events]
    rfl
  · rw [List.filter_cons_of_neg may]
    rw [mayUnblock, Bool.and_eq_true, decide_eq_true_eq] at may
    rw [unblockTest, if_neg may]
    rfl

theorem mayUnblock_unblockTest (present : s.circuits.length = 96) (e : Fin 96) (d : Direction) (v : Fin 96 × Direction) :
    mayUnblock (unblockTest e d s) v = (mayUnblock s v && !v == (e, d)) := by
  obtain ⟨c, a⟩ := v
  have named : ((c, a) == (e, d)) = decide (c = e ∧ a = d) := by rw [Bool.eq_iff_iff]; simp
  rw [mayUnblock, dir_unblockTest present, named, mayUnblock]
  simp only [DirState.unblocked, DirState.owed]
  have once (blocked named low : Bool) : (blocked && !(named && low) && low) = (blocked && low && !named) := by
    cases blocked <;> cases named <;> cases low <;> rfl
  exact once _ _ _

/-- Each direction is reported once, in the order in which the claim first names it (R100). -/
theorem unblockTests_events (us : List UnitsRef) {s : State} (present : s.circuits.length = 96) :
    (us.foldl (fun t u => unblockTest u.circuit u.direction t) s).events =
      unblockedEvents s.part ((us.map fun u => (u.circuit, u.direction)).eraseDups.filter (mayUnblock s)) s.events := by
  induction us generalizing s with
  | nil => rfl
  | cons u us ih =>
    have rest : (us.map fun u => (u.circuit, u.direction)).eraseDups.filter
          (mayUnblock (unblockTest u.circuit u.direction s)) =
        ((us.map fun u => (u.circuit, u.direction)).filter fun v => !v == (u.circuit, u.direction)).eraseDups.filter
          (mayUnblock s) := by
      rw [← filter_eraseDups, List.filter_filter]
      exact List.filter_congr fun v _ => mayUnblock_unblockTest present _ _ v
    have part : (unblockTest u.circuit u.direction s).part = s.part := by simp
    rw [List.foldl_cons, ih ((length_unblockTest _ _ s).trans present), rest, part, unblockTest_events, List.map_cons,
      List.eraseDups_cons, ← unblockedEvents_append, ← List.filter_append]
    rfl

theorem releaseUnits_events (us : List UnitsRef) {s : State} (present : s.circuits.length = 96) :
    (releaseUnits us s).events = unblockedEvents s.part
      ((us.map fun u => (u.circuit, u.direction)).eraseDups.filter fun v =>
        ((s.circ v.1).dir v.2).blocked && decide (((s.circ v.1).dir v.2).pending +
          (((s.circ v.1).dir v.2).inFlight - unitsOfPair v.1 v.2 us) < 16777215)) s.events := by
  have test (v : Fin 96 × Direction) : mayUnblock (us.foldl lowerInFlight s) v =
      (((s.circ v.1).dir v.2).blocked && decide (((s.circ v.1).dir v.2).pending +
        (((s.circ v.1).dir v.2).inFlight - unitsOfPair v.1 v.2 us) < 16777215)) := by
    rw [mayUnblock, dir_lowerInFlight us present]
    rfl
  rw [releaseUnits, unblockTests_events us ((length_lowerInFlight us s).trans present)]
  simp only [foldl_lowerInFlight_keeps, funext test]

/-! ### The two claims -/

theorem namesPair_iff (c : Fin 96) (d : Direction) (us : List UnitsRef) :
    namesPair c d us = decide (unitsNaming c d us ≠ []) := by
  rw [Bool.eq_iff_iff, decide_eq_true_iff, namesPair, List.any_eq_true]
  constructor
  · rintro ⟨u, hu, same⟩
    obtain ⟨rfl, rfl⟩ := of_decide_eq_true same
    exact List.ne_nil_of_mem (List.mem_filter.mpr ⟨hu, by simp⟩)
  · intro some_named
    obtain ⟨u, hu⟩ := List.exists_mem_of_ne_nil _ some_named
    obtain ⟨hu, same⟩ := List.mem_filter.mp hu
    rw [Bool.and_eq_true, beq_iff_eq, beq_iff_eq] at same
    exact ⟨u, hu, decide_eq_true ⟨same.1.symm, same.2.symm⟩⟩

theorem complete_agent {t : State} (same : t.agent = s.agent) (st : Status) (results : List Byte) :
    (complete st results t).agent = (complete st results s).agent := by
  simp only [complete, completeAs, same]
  split <;> simp [formResponse, same]

theorem releaseUnits_elsewhere (us : List UnitsRef) (s : State) :
    releaseUnits us s = { s with circuits := (releaseUnits us s).circuits, events := (releaseUnits us s).events } := by
  obtain ⟨part, links, sync, engine, refs, plan, builder, session, agent, pending⟩ := releaseUnits_keeps us s
  generalize releaseUnits us s = t at *
  rw [← part, ← links, ← sync, ← engine, ← refs, ← plan, ← builder, ← session, ← agent, ← pending]

theorem completeClose_elsewhere (us : List UnitsRef) (s : State) : completeClose (us.foldl restoreUnits s) =
    { s with
      circuits := (completeClose (us.foldl restoreUnits s)).circuits
      agent := (completeClose (us.foldl restoreUnits s)).agent } := by
  have closes := completeClose_keeps (us.foldl restoreUnits s)
  simp only [foldl_restoreUnits_keeps] at closes
  obtain ⟨part, links, sync, engine, -, refs, plan, builder, session, events, pending⟩ := closes
  generalize completeClose (us.foldl restoreUnits s) = t at *
  rw [← part, ← links, ← sync, ← engine, ← refs, ← plan, ← builder, ← session, ← events, ← pending]

theorem length_restoreUnits (us : List UnitsRef) (s : State) :
    (us.foldl restoreUnits s).circuits.length = s.circuits.length :=
  foldl_keeps (fun s : State => s.circuits.length) _ (fun _ _ => State.onDir_length _ _ _ _) us s

theorem length_releaseUnits (us : List UnitsRef) (s : State) : (releaseUnits us s).circuits.length = s.circuits.length :=
  (foldl_keeps (fun s : State => s.circuits.length) _ (fun _ _ => length_unblockTest _ _ _) us _).trans
    (length_lowerInFlight us s)

/-- The SESSION_CLOSE held for its restore claim is answered; nothing else of the agent moves (R150). -/
theorem completeClose_agent {t : State} (same : t.agent = s.agent) :
    (∀ n m, s.agent.held = some (.sessionClose n m) →
      (completeClose t).agent = (complete .ok (be 1 n ++ be 1 m) s).agent) ∧
    ((∀ n m, s.agent.held ≠ some (.sessionClose n m)) → (completeClose t).agent = s.agent) := by
  rw [← same]
  constructor
  · intro n m held
    rw [completeClose, held]
    exact complete_agent same _ _
  · intro other
    unfold completeClose
    split
    next n m held => exact absurd held (other n m)
    next => rfl

/-- Settles O39: direction by direction, and what each claim reports or answers. -/
theorem claimsReleaseAndRestoreUnits : Obligations.ClaimsReleaseAndRestoreUnits := by
  intro us rest s boundary present named circuits released restored
  have table : ({ s with engine := { s.engine with claims := rest } } : State).circuits.length = 96 := present
  constructor
  · intro claims
    have row : exec .ackRelease s = .next (releaseUnits us { s with engine := { s.engine with claims := rest } }) := by
      show execAckRelease s = _
      rw [execAckRelease, nextClaim_of_boundary boundary claims, dropClaim_of_claims claims]
    refine ⟨_, row, releaseUnits_elsewhere us _,
      circuits_eq_of_shell ((length_releaseUnits us _).trans table) (shell_releaseUnits us _) fun c d => ?_,
      releaseUnits_events us table⟩
    rw [dir_releaseUnits us table, namesPair_iff]
    simp only [DirState.unblocked, DirState.lowered, DirState.owed, released, Bool.decide_and]
    rfl
  · intro claims
    have row : exec .sessionRestore s =
        .next (completeClose (us.foldl restoreUnits { s with engine := { s.engine with claims := rest } })) := by
      show execSessionRestore s = _
      rw [execSessionRestore, nextClaim_of_boundary boundary claims, dropClaim_of_claims claims]
    refine ⟨_, row, completeClose_elsewhere us _, ?_, completeClose_agent (by simp)⟩
    rw [(completeClose_keeps _).2.2.2.2.1]
    exact circuits_eq_of_shell ((length_restoreUnits us _).trans table) (shell_restoreUnits us _) fun c d =>
      dir_restoreUnits us table c d

end Sys2Proof.Machine
end


section
/-! PROOFS. A builder take composes a record in visiting order, or finds nothing and decides by its triggers (R118, R119,
R126 to R130). -/

namespace Sys2Proof.Machine

variable {s : State} {run : Run} (p : PlanContents)

/-! ### The visit, direction by direction (R128) -/

/-- A direction has pending units. -/
def Run.pends (run : Run) (v : Fin 96 × Direction) : Bool := decide (0 < ((run.circ v.1).dir v.2).pending)

/-- The directions of a list that a run takes: the first with pending units, to its 24 entries. -/
def Run.takes (run : Run) (l : List (Fin 96 × Direction)) : List (Fin 96 × Direction) :=
  (l.filter run.pends).take (24 - run.entries.length)

/-- The UNITS entry that the visit of a direction places. -/
def Run.entryOf (run : Run) (v : Fin 96 × Direction) : Entry :=
  unitsEntry (circuitRecord p v.1) v.1 v.2 ((run.circ v.1).dir v.2)

/-- The visit of one direction, given as a pair. -/
def visitPair (run : Run) (v : Fin 96 × Direction) : Run := visitDir p v.1 v.2 run

theorem visitPair_of {v : Fin 96 × Direction} (pending : run.pends v = true) (room : run.entries.length < 24) :
    visitPair p run v =
      { circuits := run.circuits.set v.1.val ((run.circ v.1).onDir v.2 takeUnits)
        entries := run.entries ++ [run.entryOf p v]
        last := some v.1 } :=
  if_pos ⟨of_decide_eq_true pending, room⟩

theorem visitPair_of_not {v : Fin 96 × Direction} (out : ¬ (run.pends v = true ∧ run.entries.length < 24)) :
    visitPair p run v = run :=
  if_neg fun h => out ⟨decide_eq_true h.1, h.2⟩

theorem length_visitPair (v : Fin 96 × Direction) (run : Run) :
    (visitPair p run v).circuits.length = run.circuits.length := by
  by_cases h : run.pends v = true ∧ run.entries.length < 24
  · rw [visitPair_of p h.1 h.2, List.length_set]
  · rw [visitPair_of_not p h]

/-- Taking the units of one direction moves that direction alone. -/
theorem dir_set (present : run.circuits.length = 96) (c e : Fin 96) (d a : Direction) (entries : List Entry)
    (last : Option (Fin 96)) :
    ((⟨run.circuits.set c.val ((run.circ c).onDir d takeUnits), entries, last⟩ : Run).circ e).dir a =
      if (e, a) = (c, d) then takeUnits ((run.circ c).dir d) else (run.circ e).dir a := by
  simp only [Prod.mk.injEq]
  exact State.dir_onDir c e d a takeUnits { State.reset with circuits := run.circuits } present

/-- What a visit over distinct directions makes of a run. -/
structure Visited (l : List (Fin 96 × Direction)) (run after : Run) : Prop where
  entries : after.entries = run.entries ++ (run.takes l).map (run.entryOf p)
  last : after.last = ((run.takes l).getLast?.map Prod.fst).or run.last
  dirs : ∀ c d, ((after.circ c).dir d) =
    if (c, d) ∈ run.takes l then takeUnits ((run.circ c).dir d) else (run.circ c).dir d

theorem mem_of_mem_takes {l : List (Fin 96 × Direction)} {v : Fin 96 × Direction} (taken : v ∈ run.takes l) : v ∈ l :=
  List.mem_of_mem_filter (List.mem_of_mem_take taken)

/-- A direction that is not taken, because nothing of it is pending or no place is left. -/
theorem takes_cons_of_not {v : Fin 96 × Direction} (out : ¬ (run.pends v = true ∧ run.entries.length < 24))
    (l : List (Fin 96 × Direction)) : run.takes (v :: l) = run.takes l := by
  by_cases pending : run.pends v = true
  · have full : 24 - run.entries.length = 0 := by
      have : ¬ run.entries.length < 24 := fun room => out ⟨pending, room⟩
      omega
    rw [Run.takes, Run.takes, full, List.take_zero, List.take_zero]
  · rw [Run.takes, List.filter_cons_of_neg pending, Run.takes]

section Taken

variable {v : Fin 96 × Direction} (pending : run.pends v = true) (room : run.entries.length < 24)
  (present : run.circuits.length = 96)
include pending room present

theorem dir_visitPair (e : Fin 96) (a : Direction) : ((visitPair p run v).circ e).dir a =
    if (e, a) = v then takeUnits ((run.circ v.1).dir v.2) else (run.circ e).dir a := by
  rw [visitPair_of p pending room, dir_set present]

theorem dir_visitPair_of_ne {w : Fin 96 × Direction} (other : w ≠ v) :
    ((visitPair p run v).circ w.1).dir w.2 = (run.circ w.1).dir w.2 :=
  (dir_visitPair p pending room present w.1 w.2).trans (if_neg other)

/-- A direction that is taken stands before those taken after it. -/
theorem takes_cons {l : List (Fin 96 × Direction)} (fresh : v ∉ l) :
    run.takes (v :: l) = v :: (visitPair p run v).takes l := by
  have same : l.filter (visitPair p run v).pends = l.filter run.pends := List.filter_congr fun w hw => by
    rw [Run.pends, dir_visitPair_of_ne p pending room present (ne_of_mem_of_not_mem hw fresh), Run.pends]
  have entries : (visitPair p run v).entries.length = run.entries.length + 1 := by
    rw [visitPair_of p pending room, List.length_append]
    rfl
  have places : 24 - run.entries.length = (24 - (run.entries.length + 1)) + 1 := by omega
  rw [Run.takes, List.filter_cons_of_pos pending, places, List.take_succ_cons, Run.takes, same, entries]

theorem visited_cons {l : List (Fin 96 × Direction)} (fresh : v ∉ l) {after : Run}
    (h : Visited p l (visitPair p run v) after) : Visited p (v :: l) run after := by
  obtain ⟨entries, last, dirs⟩ := h
  have ne_of_taken {w : Fin 96 × Direction} (hw : w ∈ (visitPair p run v).takes l) : w ≠ v :=
    ne_of_mem_of_not_mem (mem_of_mem_takes hw) fresh
  have before : (visitPair p run v).entries = run.entries ++ [run.entryOf p v] ∧ (visitPair p run v).last = some v.1 := by
    rw [visitPair_of p pending room]
    exact ⟨rfl, rfl⟩
  constructor
  · have same : ((visitPair p run v).takes l).map ((visitPair p run v).entryOf p) =
        ((visitPair p run v).takes l).map (run.entryOf p) := List.map_congr_left fun w hw => by
      rw [Run.entryOf, dir_visitPair_of_ne p pending room present (ne_of_taken hw), Run.entryOf]
    rw [entries, takes_cons p pending room present fresh, same, before.1, List.map_cons, List.append_assoc,
      List.singleton_append]
  · rw [last, takes_cons p pending room present fresh, before.2, List.getLast?_cons]
    cases ((visitPair p run v).takes l).getLast? <;> rfl
  · intro c d
    rw [dirs, takes_cons p pending room present fresh, dir_visitPair p pending room present]
    by_cases here : (c, d) = v
    · have notLater : (c, d) ∉ (visitPair p run v).takes l := fun later => ne_of_taken later here
      rw [if_neg notLater, if_pos here, if_pos (here ▸ List.mem_cons_self), ← here]
    · simp only [List.mem_cons, here, false_or, if_false]

end Taken

theorem visited {l : List (Fin 96 × Direction)} (distinct : l.Nodup) {run : Run} (present : run.circuits.length = 96) :
    Visited p l run (l.foldl (visitPair p) run) := by
  induction l generalizing run with
  | nil => exact ⟨by simp [Run.takes], by simp [Run.takes], by simp [Run.takes]⟩
  | cons v l ih =>
    obtain ⟨fresh, distinct⟩ := List.nodup_cons.mp distinct
    have ih := ih distinct ((length_visitPair p v run).trans present)
    rw [List.foldl_cons]
    by_cases taken : run.pends v = true ∧ run.entries.length < 24
    · exact visited_cons p taken.1 taken.2 present fresh ih
    · rw [visitPair_of_not p taken] at ih ⊢
      have same := takes_cons_of_not taken l
      exact ⟨same.symm ▸ ih.entries, same.symm ▸ ih.last, same.symm ▸ ih.dirs⟩

/-! ### The whole visit (R127, R128) -/

/-- The directions in visiting order: circuits from the cursor, IMPORT before EXPORT (R128). -/
def visitPairs (cursor : Fin 96) : List (Fin 96 × Direction) := (visitOrder cursor).flatMap bothOf

theorem visitPairs_eq (cursor : Fin 96) : visitPairs cursor = (List.range 96).flatMap fun i =>
    [(cursor + Fin.ofNat 96 i, .imp), (cursor + Fin.ofNat 96 i, .exp)] := by
  rw [visitPairs, visitOrder, allCircuits, List.flatMap_map, List.flatMap_map]
  rfl

theorem nodup_visitPairs (cursor : Fin 96) : (visitPairs cursor).Nodup := by
  refine List.nodup_flatMap.mpr ⟨fun c _ => by simp [bothOf], ?_⟩
  refine (nodup_allCircuits.map (add_right_injective cursor)).imp fun {c e} other => ?_
  simp [Function.onFun, bothOf, List.disjoint_left, other]

/-- The run before the first circuit is visited: the WAITING closing entries (R127). -/
def runStart (s : State) : Run := ⟨s.circuits, (s.builder.closings.filter Closing.isWaiting).map Entry.close, none⟩

theorem visitAll_eq (s : State) : visitAll s =
    (visitPairs s.builder.cursor).foldl (visitPair s.plan.active.contents) (runStart s) := by
  have each (l : List (Fin 96)) (run : Run) : l.foldl (visitCircuit s.plan.active.contents) run =
      (l.flatMap bothOf).foldl (visitPair s.plan.active.contents) run := by
    induction l generalizing run with
    | nil => rfl
    | cons c l ih =>
      rw [List.foldl_cons, ih, List.flatMap_cons, List.foldl_append]
      rfl
  exact each _ _

theorem visitAll_visited (present : s.circuits.length = 96) :
    Visited s.plan.active.contents (visitPairs s.builder.cursor) (runStart s) (visitAll s) := by
  rw [visitAll_eq]
  exact visited _ (nodup_visitPairs _) present

theorem foldl_visitPair_of_nothing {l : List (Fin 96 × Direction)} (nothing : ∀ v ∈ l, ¬ run.pends v = true) :
    l.foldl (visitPair p) run = run := by
  induction l with
  | nil => rfl
  | cons v l ih =>
    rw [List.forall_mem_cons] at nothing
    rw [List.foldl_cons, visitPair_of_not p fun h => nothing.1 h.1, ih nothing.2]

/-! ### The row (R126 to R130) -/

/-- The state in which a run begins: the claim is taken and the run is no longer waiting (R126). -/
def runTaken (rest : List Claim) (s : State) : State :=
  { s with engine := { s.engine with claims := rest }, builder := { s.builder with waiting := none } }

section Row

variable {w : Triggers} {rest : List Claim} (boundary : s.engine.metering = none)
  (claims : s.engine.claims = .builderTake :: rest) (waiting : s.builder.waiting = some w)
include boundary claims waiting

theorem exec_builderTake_of : exec .builderTake s = .next (runBuilder w (runTaken rest s)) := by
  show execBuilderTake s = _
  rw [execBuilderTake, nextClaim_of_boundary boundary claims, dropClaim_of_claims claims, waiting]
  rfl

theorem exec_builderTake_of_full (full : s.session.state = .closed ∨ 16 ≤ s.session.queue.length) :
    exec .builderTake s = .next (completeFlush none
      ((runTaken rest s).onBuilder fun b => { b with dropped := b.dropped + 1 })) := by
  have refuses : ¬ builderAccepts (runTaken rest s) = true := fun accepts => by
    obtain ⟨live, room⟩ := (builderAccepts_iff _).mp accepts
    rcases full with closed | full
    · exact live closed
    · exact absurd room (Nat.not_lt.mpr full)
  rw [exec_builderTake_of boundary claims waiting, runBuilder, if_neg refuses]

variable (live : s.session.state ≠ .closed) (room : s.session.queue.length < 16)
include live room

theorem exec_builderTake_of_accepts : exec .builderTake s = .next
    (if (visitAll (runTaken rest s)).entries = [] then buildNothing w (runTaken rest s)
      else buildFull (visitAll (runTaken rest s)) (runTaken rest s)) := by
  have accepts : builderAccepts (runTaken rest s) = true := (builderAccepts_iff _).mpr ⟨live, room⟩
  rw [exec_builderTake_of boundary claims waiting, runBuilder, if_pos accepts]

theorem exec_builderTake_of_nothing (sent : ∀ k ∈ s.builder.closings, k.bound ≠ none)
    (idle : ∀ c, (s.circ c).imp.pending = 0 ∧ (s.circ c).exp.pending = 0) :
    exec .builderTake s = .next (buildNothing w (runTaken rest s)) := by
  have start : (runStart (runTaken rest s)).entries = [] := by
    refine List.map_eq_nil_iff.mpr (List.filter_eq_nil_iff.mpr fun k hk => ?_)
    simpa [Closing.isWaiting] using sent k hk
  have nothing (v : Fin 96 × Direction) : ¬ (runStart (runTaken rest s)).pends v = true := by
    obtain ⟨imp, exp⟩ := idle v.1
    have zero : ((s.circ v.1).dir v.2).pending = 0 := by
      cases v.2
      · exact imp
      · exact exp
    exact fun pending => absurd (of_decide_eq_true pending) (by rw [Nat.not_lt]; exact zero.le)
  rw [exec_builderTake_of_accepts boundary claims waiting live room, visitAll_eq,
    foldl_visitPair_of_nothing _ fun v _ => nothing v, if_pos start]

end Row

theorem bindClosing_eq (seq : Half) (k : Closing) :
    bindClosing seq k = if k.bound = none then { k with bound := some seq } else k := by
  rw [bindClosing, Closing.isWaiting]
  cases k.bound <;> rfl

theorem buildFull_blocks (run : Run) (s : State) :
    (buildFull run s).session = (composed run s).session ∧ (buildFull run s).circuits = run.circuits ∧
      (buildFull run s).builder = (composed run s).builder ∧ (buildFull run s).engine = s.engine ∧
      (buildFull run s).part = s.part ∧ (buildFull run s).links = s.links ∧ (buildFull run s).sync = s.sync ∧
      (buildFull run s).refs = s.refs ∧ (buildFull run s).plan = s.plan ∧ (buildFull run s).events = s.events := by
  rw [buildFull_eq]
  simp [completeFlush, composed, appendRecord]

theorem buildFull_agent (run : Run) (s : State) : (buildFull run s).agent =
    (completeHeld .flush .ok ([1] ++ be 2 s.session.next.toNat ++ be 1 run.entries.length) s).agent := by
  rw [buildFull_eq]
  exact completeHeld_agent (s := s) (t := composed run s) rfl _ _ _

theorem composed_builder (run : Run) (s : State) : (composed run s).builder = { s.builder with
    built := s.builder.built + 1, idle := 0
    closings := s.builder.closings.map fun k => if k.bound = none then { k with bound := some s.session.next } else k
    cursor := match run.last with
      | none => s.builder.cursor
      | some c => c + 1 } := by
  have bind := congrArg (fun f => s.builder.closings.map f) (funext (bindClosing_eq s.session.next))
  rw [← bind]
  rfl

theorem shell_visitAll (s : State) (c : Fin 96) : ((visitAll s).circ c).shell = (s.circ c).shell :=
  visitAll_keeps CircuitState.shell (fun x d => by cases d <;> rfl) s c

theorem length_visitAll (present : s.circuits.length = 96) : (visitAll s).circuits.length = 96 :=
  (visitAll_fits present).present

theorem runStart_takes (s : State) : (runStart s).takes (visitPairs s.builder.cursor) =
    (((List.range 96).flatMap fun i =>
      [(s.builder.cursor + Fin.ofNat 96 i, Direction.imp), (s.builder.cursor + Fin.ofNat 96 i, .exp)]).filter fun v =>
        decide (0 < ((s.circ v.1).dir v.2).pending)).take
      (24 - (s.builder.closings.filter fun k => k.bound.isNone).length) := by
  have waiting : (runStart s).entries.length = (s.builder.closings.filter fun k => k.bound.isNone).length :=
    List.length_map _
  rw [Run.takes, waiting, visitPairs_eq]
  rfl

/-- Settles O38: what the visit takes and where it leaves the cursor, or how the triggers decide. -/
theorem builderTakesComposeRecords : Obligations.BuilderTakesComposeRecords := by
  constructor
  · intro w rest s boundary claims runs live room present few waiting visit taken entries after found
    have table : (runTaken rest s).circuits.length = 96 := present
    have visits := visitAll_visited table
    have takes : (runStart (runTaken rest s)).takes (visitPairs (runTaken rest s).builder.cursor) = taken :=
      runStart_takes (runTaken rest s)
    obtain ⟨hentries, hlast, hdirs⟩ := visits
    rw [takes] at hentries hlast
    simp only [takes] at hdirs
    have placed : (visitAll (runTaken rest s)).entries = entries := hentries
    have row := exec_builderTake_of_accepts boundary claims runs live room
    rw [if_neg (placed ▸ found)] at row
    obtain ⟨session, circuits, builder, engine, part, links, sync, refs, plan, events⟩ :=
      buildFull_blocks (visitAll (runTaken rest s)) (runTaken rest s)
    have agent := buildFull_agent (visitAll (runTaken rest s)) (runTaken rest s)
    have circ (c : Fin 96) : (buildFull (visitAll (runTaken rest s)) (runTaken rest s)).circ c =
        (visitAll (runTaken rest s)).circ c := by rw [State.circ, circuits, Run.circ]
    refine ⟨_, row, ?_, ?_, circuits_eq_of_shell (f := after) (circuits ▸ length_visitAll table) (fun c => ?_) (fun c d => ?_),
      fun c d => ?_, ?_, engine, ?_, part, links, sync, refs, plan, events⟩
    · have some_waiting : waiting.length ≤ s.builder.closings.length := List.length_filter_le _ _
      simp only [entries, taken, List.length_append, List.length_map, List.length_take]
      omega
    · rw [session, ← placed]
      rfl
    · rw [circ]
      exact shell_visitAll _ c
    · rw [circ]
      exact hdirs c d
    · rw [circ]
      exact (visitAll_fits table).owed c d
    · rw [builder, composed_builder, hlast]
      cases taken.getLast? <;> rfl
    · rw [agent, ← placed]
      exact completeHeld_agent (s := s) (t := runTaken rest s) rfl _ _ _
  · intro w rest s boundary claims runs base empty
    refine ⟨exec_builderTake_of_full boundary claims runs, fun live room sent idle => ?_⟩
    rw [exec_builderTake_of_nothing boundary claims runs live room sent idle]
    refine ⟨fun flush => ?_, fun noFlush interval fourth => ?_, fun noFlush interval other => ?_, fun noFlush noInterval => ?_⟩
    · rw [buildNothing, if_pos flush]
      rfl
    · rw [buildNothing, noFlush, interval]
      exact congrArg Host.Outcome.next (if_pos fourth)
    · rw [buildNothing, noFlush, interval]
      exact congrArg Host.Outcome.next (if_neg other)
    · rw [buildNothing, noFlush, noInterval]
      rfl

end Sys2Proof.Machine
end


section
/-! PROOFS. A commit without refusal: closings, swap, references, circuits and events (R55 to R58, R116). -/

namespace Sys2Proof.Machine

variable {s : State} (old new : PlanContents)

/-! ### The stream key of a target (R57, R58) -/

theorem head_keysOf_eq (l : List StreamEntry) (t : Target) :
    (keysOf l t).head? = (l.find? fun e => e.target == t).map entryKey := by
  rw [keysOf, List.head?_map, List.head?_filter]

theorem head_keysOf_of_none {l : List StreamEntry} {t : Target} (absent : ∀ e ∈ l, e.target ≠ t) :
    (keysOf l t).head? = none := by
  rw [head_keysOf_eq, List.find?_eq_none.mpr fun e he => by simpa using absent e he]
  rfl

theorem head_keysOf_of_lowest {l : List StreamEntry} (ascends : keysAscend l = true) {e : StreamEntry} (here : e ∈ l)
    (lowest : ∀ x ∈ l, x.target = e.target → entryKey e ≤ entryKey x) :
    (keysOf l e.target).head? = some (entryKey e) := by
  rw [head_keysOf_eq]
  cases found : l.find? fun x => x.target == e.target with
  | none => simpa using List.find?_eq_none.mp found e here
  | some y =>
    obtain ⟨feeds, before, after, rfl, others⟩ := List.find?_eq_some_iff_append.mp found
    have first : entryKey y ≤ entryKey e := by
      have after_y := (List.pairwise_append.mp ((keysAscend_iff _).mp ascends)).2.1
      rcases List.mem_append.mp here with hbefore | hrest
      · simpa using others e hbefore
      · rcases List.mem_cons.mp hrest with rfl | hafter
        · exact le_rfl
        · exact (List.rel_of_pairwise_cons after_y hafter).le
    have least := lowest y (by simp) (by simpa using feeds)
    exact congrArg some (le_antisymm first least)

theorem entryKey_le {e x : StreamEntry} (h : e.node < x.node ∨ (e.node = x.node ∧ e.channel ≤ x.channel)) :
    entryKey e ≤ entryKey x := by
  simp only [entryKey, streamKey]
  rcases h with node | ⟨node, channel⟩
  · have : e.node.val < x.node.val := node
    omega
  · have : e.channel.val ≤ x.channel.val := channel
    rw [node]
    omega

/-! ### The circuits of the closing set (R55) -/

theorem circ_closeCircuit (present : s.circuits.length = 96) (e c : Fin 96) :
    (closeCircuit old s e).circ c = if c = e then .cleared else s.circ c := by
  have circuits : (closeCircuit old s e).circuits = (s.onCirc e fun _ => .cleared).circuits := by
    simp only [closeCircuit, postUnblockedBoth_keeps]
    rfl
  rw [circ_of_circuits circuits, State.circ_onCirc _ _ _ _ present]

theorem length_closeCircuit (e : Fin 96) (s : State) : (closeCircuit old s e).circuits.length = s.circuits.length := by
  simp [closeCircuit]

theorem length_closeCircuits (l : List (Fin 96)) (s : State) :
    (l.foldl (closeCircuit old) s).circuits.length = s.circuits.length :=
  foldl_keeps (fun s : State => s.circuits.length) _ (fun _ _ => length_closeCircuit _ _ _) l s

theorem circ_closeCircuits (l : List (Fin 96)) {s : State} (present : s.circuits.length = 96) (c : Fin 96) :
    (l.foldl (closeCircuit old) s).circ c = if c ∈ l then .cleared else s.circ c := by
  induction l generalizing s with
  | nil => simp
  | cons e l ih =>
    rw [List.foldl_cons, ih ((length_closeCircuit _ _ _).trans present), circ_closeCircuit old present]
    by_cases h : c = e <;> simp [h]

theorem closeCircuit_events (s : State) (x : Fin 96) : (closeCircuit old s x).events =
    unblockedEvents s.part ((bothOf x).filter fun v => ((s.circ x).dir v.2).blocked) s.events :=
  postUnblockedBoth_events _ _ _

theorem closeCircuit_others (s : State) (x y : Fin 96) (other : y ≠ x) : (closeCircuit old s x).circ y = s.circ y :=
  (circ_closeCircuit_or old x y s).resolve_right fun h => other h.1

theorem closeCircuits_events {l : List (Fin 96)} (distinct : l.Nodup) (s : State) : (l.foldl (closeCircuit old) s).events =
    unblockedEvents s.part ((l.flatMap bothOf).filter fun v => ((s.circ v.1).dir v.2).blocked) s.events :=
  foldl_unblocks (test := fun y v => (y.dir v.2).blocked) (closeCircuit_events old) (by simp) (closeCircuit_others old)
    distinct s

theorem closeCircuit_builder (x : Fin 96) (s : State) : (closeCircuit old s x).builder =
    { s.builder with closings := s.builder.closings ++ [closingOf (circuitRecord old x) x (s.circ x)] } := by
  simp [closeCircuit]

theorem closeCircuits_builder {l : List (Fin 96)} (distinct : l.Nodup) (s : State) :
    (l.foldl (closeCircuit old) s).builder = { s.builder with
      closings := s.builder.closings ++ l.map fun c => closingOf (circuitRecord old c) c (s.circ c) } := by
  induction l generalizing s with
  | nil => simp
  | cons x l ih =>
    obtain ⟨fresh, distinct⟩ := List.nodup_cons.mp distinct
    have same : l.map (fun c => closingOf (circuitRecord old c) c ((closeCircuit old s x).circ c)) =
        l.map fun c => closingOf (circuitRecord old c) c (s.circ c) := List.map_congr_left fun c hc => by
      rw [closeCircuit_others old s x c (ne_of_mem_of_not_mem hc fresh)]
    rw [List.foldl_cons, ih distinct, same, closeCircuit_builder, List.map_cons, List.append_assoc, List.singleton_append]

/-! ### The circuits that stay (R58, R116) -/

/-- What a commit makes of a circuit it does not close. -/
def committed (c : Fin 96) (x : CircuitState) : CircuitState :=
  if keptCircuit old new c then adjustCircuit old new c x else if newlyEnabled old new c then clearFloor x else x

theorem commitCircuit_of_kept {x : Fin 96} (kept : keptCircuit old new x = true) (s : State) :
    commitCircuit old new s x =
      (let s2 := if (s.circ x).imp.blocked && !selects (circuitRecord new x).select .imp then
          postUnblocked x .imp (s.onCirc x (adjustCircuit old new x)) else s.onCirc x (adjustCircuit old new x)
       if (s.circ x).exp.blocked && !selects (circuitRecord new x).select .exp then postUnblocked x .exp s2 else s2) :=
  if_pos kept

theorem commitCircuit_circuits_of_kept {x : Fin 96} (kept : keptCircuit old new x = true) (s : State) :
    (commitCircuit old new s x).circuits = (s.onCirc x (adjustCircuit old new x)).circuits := by
  rw [commitCircuit_of_kept old new kept]
  dsimp only
  split <;> split <;> simp

theorem commitCircuit_of_not_kept {x : Fin 96} (out : ¬ keptCircuit old new x = true) (s : State) :
    commitCircuit old new s x = if newlyEnabled old new x then s.onCirc x clearFloor else s := if_neg out

theorem circ_commitCircuit (present : s.circuits.length = 96) (e c : Fin 96) :
    (commitCircuit old new s e).circ c = if c = e then committed old new e (s.circ e) else s.circ c := by
  have same : (if c = e then s.circ e else s.circ c) = s.circ c := by
    split
    next h => rw [h]
    next => rfl
  by_cases kept : keptCircuit old new e = true
  · rw [circ_of_circuits (commitCircuit_circuits_of_kept old new kept s), State.circ_onCirc _ _ _ _ present, committed, if_pos kept]
  · rw [commitCircuit_of_not_kept old new kept, committed, if_neg kept]
    split
    · rw [State.circ_onCirc _ _ _ _ present]
    · exact same.symm

theorem length_commitCircuit (e : Fin 96) (s : State) :
    (commitCircuit old new s e).circuits.length = s.circuits.length := by
  unfold commitCircuit
  dsimp only
  repeat' split
  all_goals simp

theorem circ_commitCircuits {l : List (Fin 96)} (distinct : l.Nodup) {s : State} (present : s.circuits.length = 96)
    (c : Fin 96) : (l.foldl (commitCircuit old new) s).circ c =
      if c ∈ l then committed old new c (s.circ c) else s.circ c := by
  induction l generalizing s with
  | nil => simp
  | cons e l ih =>
    obtain ⟨fresh, distinct⟩ := List.nodup_cons.mp distinct
    rw [List.foldl_cons, ih distinct ((length_commitCircuit _ _ _ _).trans present), circ_commitCircuit old new present]
    by_cases h : c = e
    · subst h
      simp [fresh]
    · simp [h]

/-- The directions of a kept circuit that are blocked and that its new select leaves out (R58). -/
def leftOut (x : CircuitState) (v : Fin 96 × Direction) : Bool :=
  keptCircuit old new v.1 && ((x.dir v.2).blocked && !selects (circuitRecord new v.1).select v.2)

theorem commitCircuit_events (s : State) (x : Fin 96) : (commitCircuit old new s x).events =
    unblockedEvents s.part ((bothOf x).filter (leftOut old new (s.circ x))) s.events := by
  rw [filter_bothOf, unblockedEvents_append]
  by_cases kept : keptCircuit old new x = true
  · rw [commitCircuit_of_kept old new kept]
    have part (b : Bool) (t : State) : (if b then postUnblocked x .imp t else t).part = t.part := by split <;> simp
    simp only [ite_postUnblocked_events, part, leftOut, kept, Bool.true_and]
    rfl
  · have events : (commitCircuit old new s x).events = s.events := by
      rw [commitCircuit_of_not_kept old new kept]
      split <;> simp
    simp [events, leftOut, kept, unblockedEvents]

theorem commitCircuit_others (s : State) (x y : Fin 96) (other : y ≠ x) :
    (commitCircuit old new s x).circ y = s.circ y := by
  by_cases kept : keptCircuit old new x = true
  · rw [circ_of_circuits (commitCircuit_circuits_of_kept old new kept s), circ_onCirc_of_ne other]
  · rw [commitCircuit_of_not_kept old new kept]
    split
    · exact circ_onCirc_of_ne other _ _
    · rfl

theorem commitCircuits_events (s : State) : (allCircuits.foldl (commitCircuit old new) s).events = unblockedEvents s.part
    ((allCircuits.flatMap bothOf).filter fun v => leftOut old new (s.circ v.1) v) s.events :=
  foldl_unblocks (commitCircuit_events old new) (by simp) (commitCircuit_others old new) nodup_allCircuits s

theorem adjustCircuit_eq (c : Fin 96) (x : CircuitState) :
    let a := circuitRecord old c
    let b := circuitRecord new c
    let lowered (n : Nat) : Nat := if b.divisor.toNat = 0 then (Config.partialAtDivisorZero n).val
      else if b.divisor.toNat ≤ n then b.divisor.toNat - 1 else n
    let moved := currentKey old c ≠ currentKey new c ∨ a.reference ≠ b.reference
    let floorOff := a.floorEnable = true ∧ b.floorEnable = false
    adjustCircuit old new c x = { x with
      imp := { x.imp with partialCount := lowered x.imp.partialCount, blocked := x.imp.blocked && selects b.select .imp }
      exp := { x.exp with partialCount := lowered x.exp.partialCount, blocked := x.exp.blocked && selects b.select .exp }
      park := if moved then [] else x.park
      flushed := if moved then x.flushed + BitVec.ofNat 32 x.park.length else x.flushed
      floor := if floorOff then .active else x.floor
      floorAcc := if floorOff then 0 else x.floorAcc } := by
  intro a b lowered moved floorOff
  have parks : (if moved then flushPark x else x) = { x with
      park := if moved then [] else x.park
      flushed := if moved then x.flushed + BitVec.ofNat 32 x.park.length else x.flushed } := by
    by_cases h : moved
    · simp only [if_pos h, flushPark]
    · simp only [if_neg h]
  have floors (y : CircuitState) : (if a.floorEnable && !b.floorEnable then { y with floor := .active, floorAcc := 0 } else y) =
      { y with floor := if floorOff then .active else y.floor, floorAcc := if floorOff then 0 else y.floorAcc } := by
    have off : (a.floorEnable && !b.floorEnable) = true ↔ floorOff := by simp [floorOff]
    by_cases h : floorOff
    · simp only [if_pos h, if_pos (off.mpr h)]
    · simp only [if_neg h, if_neg (off.not.mpr h)]
  refine (floors _).trans ?_
  rw [parks]
  rfl

end Sys2Proof.Machine
end


section
/-! PROOFS. What a commit without refusal leaves of the whole part (R55 to R58). -/

namespace Sys2Proof.Machine

variable {s : State}

/-! ### The closing set and the circuits outside it (R53, R58) -/

section Kinds

variable {old new : PlanContents} {c : Fin 96}

theorem keptCircuit_eq_false_of_closing (closing : c ∈ closingSet old new) : keptCircuit old new c = false := by
  obtain ⟨-, gone⟩ := (mem_closingSet_iff old new c).mp closing
  rcases gone with disabled | account
  · simp [keptCircuit, disabled]
  · simp [keptCircuit, Ne.symm account]

theorem keptCircuit_of_enabled (stays : c ∉ closingSet old new) (before : (circuitRecord old c).enabled = true)
    (after : (circuitRecord new c).enabled = true) : keptCircuit old new c = true := by
  have account : (circuitRecord new c).account = (circuitRecord old c).account := by
    by_contra other
    exact stays ((mem_closingSet_iff old new c).mpr ⟨before, .inr other⟩)
  simp [keptCircuit, before, after, account]

theorem committed_of_closing (closing : c ∈ closingSet old new) (x : CircuitState) : committed old new c x = x := by
  obtain ⟨enabled, -⟩ := (mem_closingSet_iff old new c).mp closing
  simp [committed, keptCircuit_eq_false_of_closing closing, newlyEnabled, enabled]

theorem committed_of_disabled (disabled : (circuitRecord new c).enabled = false) (x : CircuitState) :
    committed old new c x = x := by
  simp [committed, keptCircuit, newlyEnabled, disabled]

theorem committed_of_newly (before : (circuitRecord old c).enabled = false) (after : (circuitRecord new c).enabled = true)
    (x : CircuitState) : committed old new c x = clearFloor x := by
  simp [committed, keptCircuit, newlyEnabled, before, after]

theorem committed_of_kept (kept : keptCircuit old new c = true) (x : CircuitState) :
    committed old new c x = adjustCircuit old new c x := if_pos kept

theorem not_mem_closingSet_of_disabled (before : (circuitRecord old c).enabled = false) : c ∉ closingSet old new :=
  fun closing => by
    obtain ⟨enabled, -⟩ := (mem_closingSet_iff old new c).mp closing
    rw [before] at enabled
    cases enabled

end Kinds

/-! ### The references (R57) -/

theorem ref_mapIdx (f : Fin 16 → RefState → RefState) (present : s.refs.length = 16) (i : Fin 16) :
    (s.onRefs fun l => l.mapIdx fun n q => f (Fin.ofNat 16 n) q).ref i = f i (s.ref i) := by
  have inside : i.val < s.refs.length := by omega
  simp [State.ref, List.getD_eq_getElem?_getD, inside]

theorem commitRef_cases (old new : PlanContents) (i : Fin 16) (q : RefState) :
    let a := refRecord old i
    let b := refRecord new i
    (b.enabled = false → commitRef old new i q = { q with ring := [], census := .restarted .idle }) ∧
    (b.enabled = true → a.enabled = false ∨ voltageKey old i ≠ voltageKey new i → commitRef old new i q =
      { q with ring := [], census := .restarted (if b.censusEnable then .qualifying else .unchecked) }) ∧
    (b.enabled = true → a.enabled = true → voltageKey old i = voltageKey new i →
      commitRef old new i q = if a.zeroOffset = b.zeroOffset ∧ a.bandMin = b.bandMin ∧ a.bandMax = b.bandMax ∧
        a.censusEnable = b.censusEnable then q
      else { q with census := .restarted (if b.censusEnable then .qualifying else .unchecked) }) := by
  intro a b
  have restart (on : b.enabled = true) :
      restartCensus b = .restarted (if b.censusEnable then .qualifying else .unchecked) := by
    simp [restartCensus, restartState, on]
  have row : commitRef old new i q =
      if !b.enabled then { q with ring := [], census := .restarted .idle }
      else if !a.enabled ∨ voltageKey old i ≠ voltageKey new i then { q with ring := [], census := restartCensus b }
      else if a.zeroOffset ≠ b.zeroOffset ∨ a.bandMin ≠ b.bandMin ∨ a.bandMax ≠ b.bandMax ∨ a.censusEnable ≠ b.censusEnable
      then { q with census := restartCensus b }
      else q := rfl
  refine ⟨fun off => ?_, fun on moved => ?_, fun on was same => ?_⟩
  · rw [row, if_pos (by simp [off])]
  · rw [row, if_neg (by simp [on]), if_pos (by simpa using moved), restart on]
  · rw [row, if_neg (by simp [on]), if_neg (by simp [was, same]), restart on]
    by_cases equal : a.zeroOffset = b.zeroOffset ∧ a.bandMin = b.bandMin ∧ a.bandMax = b.bandMax ∧
        a.censusEnable = b.censusEnable
    · rw [if_pos equal, if_neg (by simp [equal])]
    · rw [if_neg equal, if_pos (by simpa only [not_and_or, ne_eq] using equal)]

/-! ### The commit (R53, R56) -/

section Commit

variable {check : Word} {rest : List Claim}

theorem exec_commitBoundary_of (boundary : s.engine.metering = none)
    (claims : s.engine.claims = .commitBoundary check :: rest)
    (accepted : commitRefusal (closingSet s.plan.active.contents s.plan.shadow.contents) s = none) :
    exec .commitBoundary s = .next (commitPlan check (dropClaim s)) := by
  show execCommitBoundary s = _
  have same : commitRefusal (closingSet (dropClaim s).plan.active.contents (dropClaim s).plan.shadow.contents) (dropClaim s) =
      none := accepted
  rw [execCommitBoundary, nextClaim_of_boundary boundary claims]
  simp only [takeCommit, same]

theorem commitRefusal_eq_none {set : List (Fin 96)}
    (free : ∀ c ∈ set, (s.circ c).imp.inFlight = 0 ∧ (s.circ c).exp.inFlight = 0 ∧ ∀ k ∈ s.builder.closings, k.circuit ≠ c)
    (room : set.length ≤ 8 - s.builder.closings.length) : commitRefusal set s = none := by
  have idle : set.find? (fun c => decide (0 < (s.circ c).imp.inFlight ∨ 0 < (s.circ c).exp.inFlight)) = none :=
    List.find?_eq_none.mpr fun c hc => by simp [(free c hc).1, (free c hc).2.1]
  have open_ : set.find? (fun c => s.builder.closings.any fun k => k.circuit == c) = none :=
    List.find?_eq_none.mpr fun c hc => by simpa using (free c hc).2.2
  simp only [commitRefusal, idle, open_, Config.closingPlaces]
  exact if_neg (Nat.not_lt.mpr room)

end Commit

/-- The part after the closings, the swap and the references of a commit (R55 to R57). -/
def commitBanks (check : Word) (s : State) : State :=
  (((closingSet s.plan.active.contents s.plan.shadow.contents).foldl (closeCircuit s.plan.active.contents) s).onPlan
    (swapBanks check)).onRefs fun l =>
      l.mapIdx fun i q => commitRef s.plan.active.contents s.plan.shadow.contents (Fin.ofNat 16 i) q

/-- The part after the circuits of a commit, too (R58). -/
def commitTables (check : Word) (s : State) : State :=
  allCircuits.foldl (commitCircuit s.plan.active.contents s.plan.shadow.contents) (commitBanks check s)

theorem commitPlan_eq (check : Word) (s : State) :
    commitPlan check s = completeHeld .commit .ok
      (be 4 (post .planCommitted 0 check (commitPartState s.plan.shadow.contents (commitTables check s))).plan.active.generation.toNat
        ++ be 4 check.toNat)
      (post .planCommitted 0 check (commitPartState s.plan.shadow.contents (commitTables check s))) := rfl

theorem commitPartState_blocks (new : PlanContents) (s : State) :
    (commitPartState new s).part = { s.part with state := if anyEnabled new then .metering else .idle } ∧
    (commitPartState new s).plan = { s.plan with pass := if anyEnabled new then .running 0 crc32Init else .stopped } := by
  unfold commitPartState
  split <;> exact ⟨rfl, rfl⟩

theorem nodup_closingSet (old new : PlanContents) : (closingSet old new).Nodup :=
  (closingSet_ascends old new).imp fun h => ne_of_lt h

theorem circ_commitBanks (check : Word) (present : s.circuits.length = 96) (c : Fin 96) : (commitBanks check s).circ c =
    if c ∈ closingSet s.plan.active.contents s.plan.shadow.contents then .cleared else s.circ c :=
  circ_closeCircuits s.plan.active.contents _ present c

theorem length_commitBanks (check : Word) (present : s.circuits.length = 96) :
    (commitBanks check s).circuits.length = 96 := by
  rw [commitBanks, State.onRefs_circuits, State.onPlan_circuits, length_closeCircuits, present]

theorem commitBanks_events (check : Word) (s : State) : (commitBanks check s).events = unblockedEvents s.part
    (((closingSet s.plan.active.contents s.plan.shadow.contents).flatMap bothOf).filter fun v =>
      ((s.circ v.1).dir v.2).blocked) s.events := by
  rw [commitBanks, State.onRefs_events, State.onPlan_events, closeCircuits_events _ (nodup_closingSet _ _)]

theorem commitBanks_blocks (check : Word) (s : State) :
    (commitBanks check s).part = s.part ∧ (commitBanks check s).links = s.links ∧
    (commitBanks check s).sync = s.sync ∧ (commitBanks check s).engine = s.engine ∧
    (commitBanks check s).plan = swapBanks check s.plan ∧ (commitBanks check s).session = s.session ∧
    (commitBanks check s).agent = s.agent ∧ (commitBanks check s).pending = s.pending ∧
    (commitBanks check s).builder = { s.builder with
      closings := s.builder.closings ++ (closingSet s.plan.active.contents s.plan.shadow.contents).map fun c =>
        closingOf (circuitRecord s.plan.active.contents c) c (s.circ c) } := by
  simp [commitBanks, closeCircuits_builder _ (nodup_closingSet _ _)]

theorem circ_commitTables (check : Word) (present : s.circuits.length = 96) (c : Fin 96) :
    (commitTables check s).circ c = committed s.plan.active.contents s.plan.shadow.contents c
      (if c ∈ closingSet s.plan.active.contents s.plan.shadow.contents then .cleared else s.circ c) := by
  rw [commitTables, circ_commitCircuits _ _ nodup_allCircuits (length_commitBanks check present),
    if_pos (mem_allCircuits c), circ_commitBanks check present]

/-- The directions a commit reports because their circuit is kept and its new select leaves them out, in terms of the part
before the commit (R58). -/
theorem filter_leftOut (old new : PlanContents) (s : State) :
    ((allCircuits.flatMap bothOf).filter fun v =>
      leftOut old new (if v.1 ∈ closingSet old new then .cleared else s.circ v.1) v) =
    (allCircuits.flatMap bothOf).filter fun v => ((s.circ v.1).dir v.2).blocked && !(closingSet old new).contains v.1 &&
      (circuitRecord old v.1).enabled && (circuitRecord new v.1).enabled && !selects (circuitRecord new v.1).select v.2 := by
  refine List.filter_congr fun v _ => ?_
  by_cases closing : v.1 ∈ closingSet old new
  · simp [leftOut, closing, keptCircuit_eq_false_of_closing closing]
  · by_cases enabled : (circuitRecord old v.1).enabled = true ∧ (circuitRecord new v.1).enabled = true
    · simp [leftOut, closing, keptCircuit_of_enabled closing enabled.1 enabled.2, enabled]
    · have out : keptCircuit old new v.1 = false := by
        rw [Bool.eq_false_iff, keptCircuit]
        exact fun kept => enabled (by simpa using (Bool.and_eq_true_iff.mp kept).1)
      rcases not_and_or.mp enabled with h | h <;> simp [leftOut, closing, out, h]

theorem commitTables_events (check : Word) (present : s.circuits.length = 96) : (commitTables check s).events =
    unblockedEvents s.part
      (((closingSet s.plan.active.contents s.plan.shadow.contents).flatMap bothOf).filter
          (fun v => ((s.circ v.1).dir v.2).blocked) ++
        (allCircuits.flatMap bothOf).filter fun v => ((s.circ v.1).dir v.2).blocked &&
          !(closingSet s.plan.active.contents s.plan.shadow.contents).contains v.1 &&
          (circuitRecord s.plan.active.contents v.1).enabled && (circuitRecord s.plan.shadow.contents v.1).enabled &&
          !selects (circuitRecord s.plan.shadow.contents v.1).select v.2) s.events := by
  have part : (commitBanks check s).part = s.part := (commitBanks_blocks check s).1
  rw [commitTables, commitCircuits_events, part, commitBanks_events, unblockedEvents_append, ← filter_leftOut]
  simp only [circ_commitBanks check present]

theorem commitTables_blocks (check : Word) (s : State) :
    (commitTables check s).part = s.part ∧ (commitTables check s).links = s.links ∧
    (commitTables check s).sync = s.sync ∧ (commitTables check s).engine = s.engine ∧
    (commitTables check s).plan = swapBanks check s.plan ∧ (commitTables check s).session = s.session ∧
    (commitTables check s).agent = s.agent ∧ (commitTables check s).pending = s.pending ∧
    (commitTables check s).builder = { s.builder with
      closings := s.builder.closings ++ (closingSet s.plan.active.contents s.plan.shadow.contents).map fun c =>
        closingOf (circuitRecord s.plan.active.contents c) c (s.circ c) } := by
  simpa only [commitTables, foldl_commitCircuit_keeps] using commitBanks_blocks check s

theorem ref_commitTables (check : Word) (present : s.refs.length = 16) (i : Fin 16) :
    (commitTables check s).ref i = commitRef s.plan.active.contents s.plan.shadow.contents i (s.ref i) := by
  have refs : (commitTables check s).refs = (s.onRefs fun l => l.mapIdx fun n q =>
      commitRef s.plan.active.contents s.plan.shadow.contents (Fin.ofNat 16 n) q).refs := by
    simp only [commitTables, foldl_commitCircuit_keeps, commitBanks, State.onRefs_refs, State.onPlan_refs,
      foldl_closeCircuit_keeps]
  rw [← ref_mapIdx (s := s) (fun i q => commitRef s.plan.active.contents s.plan.shadow.contents i q) present i, State.ref,
    refs, State.ref]

theorem commitPlan_blocks (check : Word) (s : State) :
    (commitPlan check s).plan = ⟨⟨s.plan.shadow.contents, s.plan.active.generation + 1, check⟩, s.plan.active,
      if anyEnabled s.plan.shadow.contents then .running 0 crc32Init else .stopped, s.plan.passes⟩ ∧
    (commitPlan check s).part =
      { s.part with state := if anyEnabled s.plan.shadow.contents then .metering else .idle } ∧
    (commitPlan check s).builder = (commitTables check s).builder ∧
    (commitPlan check s).circuits = (commitTables check s).circuits ∧
    (commitPlan check s).refs = (commitTables check s).refs ∧
    (commitPlan check s).events = posted .planCommitted 0 check (commitPlan check s).part (commitTables check s).events := by
  obtain ⟨part, plan⟩ := commitPartState_blocks s.plan.shadow.contents (commitTables check s)
  obtain ⟨tablesPart, -, -, -, tablesPlan, -⟩ := commitTables_blocks check s
  rw [tablesPart] at part
  rw [tablesPlan] at plan
  rw [commitPlan_eq]
  simp only [completeHeld_keeps, post_keeps, commitPartState_keeps, part, plan]
  refine ⟨rfl, trivial, trivial, trivial, trivial, ?_⟩
  rw [post, State.onEvents_events, part, (commitPartState_keeps _ _).2.2.2.2.2.2.2.2.1]

theorem commitPlan_agent (check : Word) (s : State) : (commitPlan check s).agent = (completeHeld .commit .ok
    (be 4 (s.plan.active.generation + 1).toNat ++ be 4 check.toNat) s).agent := by
  obtain ⟨-, plan⟩ := commitPartState_blocks s.plan.shadow.contents (commitTables check s)
  obtain ⟨-, -, -, -, tablesPlan, -, agent, -⟩ := commitTables_blocks check s
  rw [tablesPlan] at plan
  have generation : (post .planCommitted 0 check (commitPartState s.plan.shadow.contents
      (commitTables check s))).plan.active.generation = s.plan.active.generation + 1 := by
    rw [(post_keeps _ _ _ _).2.2.2.2.2.2.1, plan]
    rfl
  rw [commitPlan_eq, generation]
  exact completeHeld_agent (by simpa using agent) _ _ _

/-- Settles O34: the keys of the targets, then each block of the part after the commit. -/
theorem commitClosesSwapsAndAdjusts : Obligations.CommitClosesSwapsAndAdjusts := by
  constructor
  · intro p r c ascends lowest
    refine ⟨fun e low => ?_, head_keysOf_of_none, head_keysOf_of_none⟩
    have head := head_keysOf_of_lowest ascends low.1 fun x hx same => entryKey_le (low.2 x hx same)
    constructor
    all_goals
      intro feeds
      rw [feeds] at head
      exact head
  · intro check rest s boundary claims circuits refs old new set free room
    obtain ⟨plan, part, builder, table, references, events⟩ := commitPlan_blocks check (dropClaim s)
    obtain ⟨-, -, -, -, -, -, -, -, closings⟩ := commitTables_blocks check (dropClaim s)
    have circ (c : Fin 96) : (commitPlan check (dropClaim s)).circ c =
        committed old new c (if c ∈ set then .cleared else s.circ c) :=
      (circ_of_circuits table c).trans (circ_commitTables check (s := dropClaim s) circuits c)
    have open_ {c : Fin 96} (stays : c ∉ set) : (commitPlan check (dropClaim s)).circ c = committed old new c (s.circ c) := by
      rw [circ, if_neg stays]
    have engine : (dropClaim s).engine = { s.engine with claims := rest } := by rw [dropClaim_of_claims claims]
    refine ⟨_, exec_commitBoundary_of boundary claims (commitRefusal_eq_none free room), plan, part, builder.trans closings,
      fun c closing => ?_, fun c stays disabled => ?_, fun c before after => ?_, fun c stays before after => ?_, fun i => ?_,
      (commitPlan_agent check (dropClaim s)).trans (completeHeld_agent (s := s) (t := dropClaim s) rfl _ _ _), ?_, ?_, ?_, ?_, ?_, ?_⟩
    · rw [circ, if_pos closing, committed_of_closing closing]
    · rw [open_ stays, committed_of_disabled disabled]
    · rw [open_ (not_mem_closingSet_of_disabled before), committed_of_newly before after]
      rfl
    · rw [open_ stays, committed_of_kept (keptCircuit_of_enabled stays before after)]
      exact adjustCircuit_eq old new c (s.circ c)
    · have ref : (commitPlan check (dropClaim s)).ref i = commitRef old new i (s.ref i) := by
        rw [State.ref, references]
        exact ref_commitTables check (s := dropClaim s) refs i
      rw [ref]
      exact commitRef_cases old new i (s.ref i)
    · rw [events, commitTables_events check (s := dropClaim s) circuits]
      rfl
    · rw [← engine]
      simp
    all_goals simp

end Sys2Proof.Machine
end
